-- ==== Sys2Proof/Word.lean ====
section
/-! DEFINITION. The bit-vector and number types the spec's text is written in (00_scope.md section 6). -/

namespace Sys2Proof

/-- 8 bits (00_scope.md 6.2). -/
abbrev Byte := BitVec 8

/-- 32 bits: a data word, a local address, a register (00_scope.md 6.2). -/
abbrev Word := BitVec 32

/-- A station number, 0 to 15 (00_scope.md 6.3). -/
abbrev Station := Fin 16

/-- A tag, the number of a Transaction Table entry, 0 to 15 (R56). -/
abbrev Tag := Fin 16

/-- A window page, 0 to 4095 (00_scope.md 6.3). -/
abbrev Page := Fin 4096

/-- A word offset within a page, 0 to 1023 (00_scope.md 6.3). -/
abbrev Offset := Fin 1024

/-- A command slot, 0 to 3 (R136). -/
abbrev SlotNo := Fin 4

/-- The name of a Posted Write Buffer entry, the n of the origin POSTED n (R56): one of the 8 places. -/
abbrev Place := Fin 8

/-- A byte mask: bit n stands for byte lane n (00_scope.md 6.2; lane 0 is the most significant byte, R176). -/
abbrev Lanes := BitVec 4

/-- All four byte lanes. -/
abbrev Lanes.all : Lanes := 0xF#4

end Sys2Proof
end

