-- ==== Sys2Proof/Syntax.lean ====
section
/-! DEFINITION. The commands of the block, one constructor of `Instr` for each row of spec/opcode_table.json, and the
types of their operands. The table gives the rows no fields: what each command carries is read from the rule that
governs it (log entry 3). -/

namespace Sys2Proof

/-- Sizes of a host access (R119, R169). -/
inductive AccessSize where
  | byte | halfword | word
deriving DecidableEq, Repr

/-- An atomic operation with its operands (R42). -/
inductive AtomicOp where
  | fetchAdd (a : Word)
  | swap (a : Word)
  | compareSwap (a b : Word)
deriving DecidableEq, Repr

/-- The seven wire statuses (R85, R177). -/
inductive WireStatus where
  | ok | noWindow | notPermitted | boundary | mapError | memoryError | atomicDisabled
deriving DecidableEq, Repr

/-- An acknowledge code as read by the transmitter; `nothing` is the spec's NONE (R92). -/
inductive AckCode where
  | accept | busy | refuse | stale | nothing
deriving DecidableEq, Repr

/-- One word of a write with the byte lanes to be written (R82, R149). -/
structure MaskedWord where
  mask : Lanes
  data : Word
deriving DecidableEq, Repr

/-- How one transfer on the Local Bus ends (R152). -/
inductive BusReply where
  | ok | dataError | noReply
deriving DecidableEq, Repr

/-- What the Local Bus does in one transfer of a Memory Port cycle (R151, R152): the bytes that other bus masters wrote
to local memory before it (R155), the reply, and, for a write that does not end OK, whether its word was written all the
same (R46, R152). -/
structure Transfer where
  others : List (Word × Byte)
  reply  : BusReply
  landed : Bool
deriving DecidableEq, Repr

/-- A transfer that ends OK with no other master about. -/
def Transfer.plain : Transfer := { others := [], reply := .ok, landed := false }

/-- The body of a frame as its kind and length field delimit it (R83, R177); codes are kept as carried. -/
inductive FrameBody where
  | readReq (page : Page) (offset : Offset) (count : Fin 32)
  | writeReq (page : Page) (offset : Offset) (items : List MaskedWord)
  | atomicReq (page : Page) (offset : Offset) (operation : Fin 4) (operands : List Word)
  | signal (words : List Word)
  | probe
  | response (status : Fin 8) (words : List Word)
  | announce (level : Fin 16)
  | leave
  /-- A kind code 8 to 15, given here less 8, names none of the eight kinds. -/
  | unnamed (code : Fin 8) (words : List Word)
deriving DecidableEq, Repr

/-- A frame from its class field to the end of its body (R82). -/
structure RawFrame where
  cls    : Fin 4
  source : Station
  dest   : Station
  tag    : Tag
  issue  : Bool
  length : Fin 32
  body   : FrameBody
deriving DecidableEq, Repr

/-- The maintenance registers the host writes (1.4; R174). -/
inductive MaintRegister where
  | page | entry0 | entry1
deriving DecidableEq, Repr

/-- The slot registers the host writes as parameters or buffer (R138, R174). -/
inductive SlotRegister where
  | kind | target | page | offset | count | operandA | operandB
  | buffer (i : Fin 16)
deriving DecidableEq, Repr

/-- How long the RESET pin was low (R178): at least 1 µs, or less, and then whether the part was reset by it. -/
inductive ResetPulse where
  | full
  | short (taken : Bool)
deriving DecidableEq, Repr

/-- The commands: one for each row of spec/opcode_table.json. A comment names the rule of the row. -/
inductive Instr where
  /-- A CONTROL write with JOIN (R103): the levels of the STN and RATE pins, whether LEAVE was written too, and the
  Inbound Enable written (R171). -/
  | join (stn : Station) (rate : BitVec 2) (leaveToo enable : Bool)
  /-- A CONTROL write with LEAVE and not JOIN (R107), with the Inbound Enable written (R171). -/
  | leave (enable : Bool)
  /-- A CONTROL write with SOFT-RESET (R172); whether the driving of an acknowledge code decided just before has begun (R99). -/
  | softReset (slotBegun : Bool)
  /-- A CONTROL write with no function bit (R26, R171). -/
  | inboundEnableWrite (enable : Bool)
  /-- A write of the limits register (R101). -/
  | limitsWrite (value : Word)
  /-- A write of the map base register (R2, R101). -/
  | mapBaseWrite (value : Word)
  /-- A write of the interrupt status register (R167). -/
  | linkCauseClear (value : Word)
  /-- A write of the interrupt mask register (R168). -/
  | interruptMaskWrite (value : Word)
  /-- A read of the fence register (R132). -/
  | fenceRead
  /-- The end of a held read of the fence register (R132). -/
  | fenceReadComplete
  /-- A write of the signal pop register (R52); the value does not matter. -/
  | signalPop (value : Word)
  /-- A write of the event pop register (R164); the value does not matter. -/
  | eventPop (value : Word)
  /-- A write of a maintenance register (R14). -/
  | maintRegisterWrite (register : MaintRegister) (value : Word)
  /-- Maintenance command 1 (R16). -/
  | update
  /-- Maintenance command 2 (R17). -/
  | read
  /-- Maintenance command 3 (R18). -/
  | invalidateAll
  /-- A write of the maintenance command register whose bits 1 to 0 are 0 (R15, R175). -/
  | maintCommandUndefined (value : Word)
  /-- A write of a slot parameter or buffer word (R138). -/
  | slotParameterWrite (slot : SlotNo) (register : SlotRegister) (value : Word)
  /-- Slot command 1 (R140). -/
  | go (slot : SlotNo)
  /-- Slot command 2 (R144). -/
  | release (slot : SlotNo)
  /-- Slot command 3 (R145). -/
  | cancel (slot : SlotNo)
  /-- A write of a slot command register that is none of 1, 2 and 3 (R139, R175). -/
  | slotCommandUndefined (slot : SlotNo) (value : Word)
  /-- A word write at an offset of the register window (R169). -/
  | registerWrite (offset : BitVec 12) (value : Word)
  /-- A byte, halfword or misaligned access through CS-REG (R169). -/
  | registerAccessInvalid (write : Bool) (size : AccessSize) (offset : BitVec 12)
  /-- A host store to the aperture: aperture offset, size, and the data bus, bytes in their lanes (R119, R123). -/
  | apertureStore (offset : BitVec 18) (size : AccessSize) (data : Word)
  /-- A host load from the aperture (R119, R128). -/
  | apertureLoad (offset : BitVec 18) (size : AccessSize)
  /-- The end of a held store (R124). -/
  | heldStorePlaced
  /-- The presentation of an eligible posted entry (R125). -/
  | postedEntryPresented (place : Place)
  /-- The presentation of a held load whose noted entries have left (R128). -/
  | loadPresented
  /-- The presentation of an ISSUED slot whose noted entries have left (R141). -/
  | slotPresented (slot : SlotNo)
  /-- The LEAVE frame becomes pending (R109). -/
  | drainComplete
  /-- A transmit opportunity (R81, R90). -/
  | transmitOpportunity
  /-- The own frame loses arbitration (R86, R87). -/
  | arbitrationLost
  /-- A readback mismatch aborts the own frame (R88). -/
  | readbackAbort
  /-- The three bits of the acknowledge slot of the own request, SIGNAL or PROBE (R64, R93). -/
  | requestAcknowledge (bits : BitVec 3)
  /-- The three bits of the acknowledge slot of the own RESPONSE (R32, R93). -/
  | replyAcknowledge (bits : BitVec 3)
  /-- The own ANNOUNCE has been transmitted whole (R105). -/
  | announceTransmitted
  /-- The own LEAVE has been transmitted whole (R109). -/
  | leaveTransmitted
  /-- A backoff interval of a medium entry ends (R65). -/
  | backoffElapsed (tag : Tag)
  /-- A backoff interval of a loopback entry ends (R71). -/
  | loopbackBackoffElapsed (tag : Tag)
  /-- A backoff interval of a reply ends (R33). -/
  | replyBackoffElapsed (source : Station) (tag : Tag)
  /-- A response timer runs out (R67). -/
  | responseTimeout (tag : Tag)
  /-- The medium has been IDLE for the round gap (R89). -/
  | roundGapElapsed
  /-- The medium has been IDLE for the join listen (R104). -/
  | joinListenComplete
  /-- A run of 11 recessive bits after the JOIN (R79). -/
  | mediumSyncRun
  /-- A dominant bit before an inter-frame gap of idle (R79). -/
  | strayDominantBit
  /-- The end of a bad frame (R84): the recessive bits seen since the last dominant bit of it (R79, R80). -/
  | badFrame (recessive : Nat := 0)
  /-- A good frame that is malformed (R85). -/
  | malformedFrame (frame : RawFrame)
  /-- A good frame that is heard and nothing more (R96): its source. -/
  | frameHeard (source : Station)
  /-- A good heard frame with the own source (R111). -/
  | ownSourceFrameHeard
  /-- A good READ-REQ addressed to the station (R22). -/
  | readReq (source : Station) (tag : Tag) (issue : Bool) (page : Page) (offset : Offset) (count : Nat)
  /-- A good WRITE-REQ addressed to the station (R22). -/
  | writeReq (source : Station) (tag : Tag) (issue : Bool) (page : Page) (offset : Offset) (items : List MaskedWord)
  /-- A good ATOMIC-REQ addressed to the station (R42). -/
  | atomicReq (source : Station) (tag : Tag) (issue : Bool) (page : Page) (offset : Offset) (op : AtomicOp)
  /-- A good SIGNAL addressed to the station (R48). -/
  | signal (source : Station) (tag : Tag) (issue : Bool) (value : Word)
  /-- A good PROBE addressed to the station (R55). -/
  | probe (source : Station) (tag : Tag) (issue : Bool)
  /-- A good RESPONSE addressed to the station (R68). -/
  | response (source : Station) (tag : Tag) (issue : Bool) (status : WireStatus) (data : List Word)
  /-- A well-formed ANNOUNCE (R115). -/
  | announce (source : Station)
  /-- A well-formed LEAVE (R116). -/
  | leaveFrame (source : Station)
  /-- The Inbound Engine starts the oldest NEW entry (R27). -/
  | executionStart
  /-- The map read of the pending fill ends (R9 to R11). -/
  | mapFillEnd (transfers : List Transfer)
  /-- An inbound data read or masked write ends (R30). -/
  | dataCycleEnd (transfers : List Transfer)
  /-- The read phase of a locked cycle ends (R153). -/
  | lockedReadPhaseEnd (transfer : Transfer)
  /-- The write phase of a locked cycle ends (R153). -/
  | lockedWritePhaseEnd (transfer : Transfer)
  /-- The map write of an UPDATE ends (R16). -/
  | mapWriteEnd (transfers : List Transfer)
  /-- The map read of a maintenance READ ends (R17). -/
  | maintMapReadEnd (transfers : List Transfer)
  /-- A cycle whose discard mark is set ends (R156, R157). -/
  | discardedCycleEnd (transfers : List Transfer)
  /-- The RESET pin goes low (R178); of a write given up, which of its words had been written (R158). -/
  | resetAsserted (landed : List Bool)
  /-- The RESET pin returns high (R178). -/
  | resetReleased (pulse : ResetPulse)
  /-- The 16th CLK period after RESET returned high (R178). -/
  | hostPortReady
  /-- Another station's start marker on the idle medium (R79, R81). -/
  | startMarker
  /-- The slot that a soft reset found begun is driven to its end (R99). -/
  | acknowledgeSlotCompleted
deriving DecidableEq, Repr

end Sys2Proof
end

