-- ==== Sys2Proof/Config.lean ====
section
/-! DEFINITION. What the SW-16 fixes once and for all: capacities, gaps, power-on values. The spec leaves no value
of these open, so the file holds no free value. -/

namespace Sys2Proof.Config

/-- The Map Cache holds at most 24 entries (R5). -/
def mapCacheCapacity : Nat := 24

/-- The Inbound Request List holds at most 8 entries (R21). -/
def inboundCapacity : Nat := 8

/-- The Signal Queue holds at most 8 records (R49). -/
def signalCapacity : Nat := 8

/-- The Posted Write Buffer holds at most 8 entries (R122). -/
def postedCapacity : Nat := 8

/-- A posted entry has at most 8 words (R122). -/
def postedWords : Nat := 8

/-- The Event Queue holds at most 16 records (R159). -/
def eventCapacity : Nat := 16

/-- The fence failure count saturates at 255 (R131). -/
def fenceLimit : Nat := 255

/-- The words of a page, 1024 (00_scope.md 6.3); a request may not reach past them (R28). -/
def pageWords : Nat := 1024

/-- The inter-frame gap, 11 BT of idle medium (R81); also the recessive run that ends the assumed busy medium (R79). -/
def interFrameGap : Nat := 11

/-- The round gap, 30 BT of idle medium (R89). -/
def roundGap : Nat := 30

/-- The join listen, 2000 BT of idle medium (R104). -/
def joinListen : Nat := 2000

/-- The bits of a frame after its CRC: three of acknowledge slot and one of delimiter (R177). -/
def slotAndDelimiter : Nat := 4

/-- The bits of an acknowledge slot (R92). -/
def slotBits : Nat := 3

/-- CLK periods of 25 ns from RESET high to the first host access answered (R178). -/
def hostStartup : Nat := 16

/-- The unit of the response timeout, 50 µs, in ns (R67). -/
def timeoutUnitNs : Nat := 50000

/-- The protocol level of ANNOUNCE (R83). -/
def protocolLevel : Fin 16 := 1

/-- What the identification register reads (R173). -/
def identification : Word := 0x3A501601#32

/-- Duration of one bit at the link rate selected by the RATE pins, in ns (00_scope.md 6.4). -/
def bitTimeNs (rate : BitVec 2) : Nat :=
  if rate = 0#2 then 400 else if rate = 1#2 then 200 else if rate = 2#2 then 100 else 50

/-- What a byte of local memory reads as that nothing in the model has written.
DESIGN CHOICE (log entry 2), unsafe: the spec gives local memory no contents. -/
def unlistedByte : Byte := 0#8

end Sys2Proof.Config
end

