-- ==== Sys2Proof/Machine/State.lean ====
section
/-! DEFINITION. What the SW-16 holds, block by block (00_scope.md section 3), the reasons a step can stop, and the
machine after power-on reset. -/

namespace Sys2Proof.Machine

/-! ## Statuses -/

/-- Every status of 4.6, with NO-TRANSLATION and the two Memory Port outcomes that event records carry (R159, R175). -/
inductive Status where
  | ok | noWindow | notPermitted | boundary | mapError | memoryError | atomicDisabled
  | refused | noAck | targetBusy | timeout | answerLost | stationSilent | stationDeparted
  | linkDown | cancelled | badCommand | noTranslation | dataError | noReply
deriving DecidableEq, Repr

/-! ## Membership Unit -/

/-- The six link states (6.2). -/
inductive LinkState where
  | offline | listening | announcing | online | draining | conflict
deriving DecidableEq, Repr

/-- The five Roster states (R114). -/
inductive RosterState where
  | unheard | present | silent | departed | self
deriving DecidableEq, Repr

/-- One Roster record: state and consecutive-failure count (R114). -/
structure RosterRecord where
  state : RosterState
  count : Nat
deriving DecidableEq, Repr

/-- The Start Configuration (R101); the base is held as local address bits 31 to 15 (R2). -/
structure StartConfig where
  responseTimeout : BitVec 8
  attemptLimit    : BitVec 4
  silentThreshold : BitVec 3
  mapBase         : BitVec 17
deriving DecidableEq, Repr

/-- The Membership Unit (R102, R104, R109, R114). -/
structure MembershipUnit where
  link            : LinkState
  own             : Station
  rate            : BitVec 2
  config          : StartConfig
  announcePending : Bool
  leavePending    : Bool
  roster          : Vector RosterRecord 16
deriving DecidableEq, Repr

/-! ## Link Unit -/

/-- Whose frame the station is transmitting (R90). -/
inductive TxOwner where
  | reply (source : Station) (tag : Tag)
  | transaction (tag : Tag)
  | announce
  | leave
deriving DecidableEq, Repr

/-- The frame being transmitted: its owner, and its contents, fixed at the start marker (R91). -/
structure Transmission where
  owner : TxOwner
  frame : RawFrame
deriving DecidableEq, Repr

/-- What the Link Unit is doing with the medium. `idle` is the spec's medium state IDLE, every other phase its BUSY
(R79). `sync`: since JOIN, until a run of 11 recessive bits, with the run so far. `frame`: a frame of another station
is being received. `own`: the station transmits. `ending`: the CRC is past, with the bits of slot and delimiter to
come. `recovering`: a frame was given up or a stray bit seen, and idle is counted from the last dominant bit. -/
inductive MediumPhase where
  | idle
  | sync (run : Nat)
  | frame
  | own (tx : Transmission)
  | ending (bits : Nat)
  | recovering
deriving DecidableEq, Repr

/-- The receive buffer (R97): free; filling with a frame of another station, whose bits no row of the table brings one
by one (log entry 22); or holding the own frame, which passes through it while it is transmitted. -/
inductive ReceiveBuffer where
  | free
  | filling
  | holds (frame : RawFrame)
deriving DecidableEq, Repr

/-- The Link Unit: attached to the medium or not (R79, R99), the medium, the idle length in BT, the spent mark (R89),
the receive buffer (R97), the acknowledge code the station drives in the present slot (R92), and, where a soft reset has
found that code begun, the bits of it that are still to be driven (R99). -/
structure LinkUnit where
  attached      : Bool
  phase         : MediumPhase
  idleLength    : Nat
  spent         : Bool
  receiveBuffer : ReceiveBuffer
  driving       : Option AckCode
  slotLeft      : Option Nat
deriving DecidableEq, Repr

/-! ## Outbound Unit -/

/-- Where a transaction comes from (R56). -/
inductive Origin where
  | apertureRead
  | posted (place : Place)
  | slot (k : SlotNo)
deriving DecidableEq, Repr

/-- Kind and parameters of a transaction (R56). The words of a write stay in the origin's buffer. -/
inductive TransBody where
  | read (page : Page) (offset : Offset) (count : Nat)
  | write (page : Page) (offset : Offset) (count : Nat)
  | atomic (page : Page) (offset : Offset) (op : AtomicOp)
  | signal (value : Word)
  | probe
deriving DecidableEq, Repr

/-- State of an allocated entry (R56): BACKOFF with the BT that remain (R65), WAITING with the response timer's
remaining time in ns (R67); the timer is stopped in every other state. -/
inductive TransState where
  | queued
  | onAir
  | backoff (left : Nat)
  | waiting (left : Nat)
deriving DecidableEq, Repr

/-- An allocated Transaction Table entry (R56). -/
structure TransEntry where
  issue    : Bool
  origin   : Origin
  target   : Station
  body     : TransBody
  state    : TransState
  attempts : Nat
  lastCode : Option AckCode
  cancel   : Bool
deriving DecidableEq, Repr

/-- The Outbound Unit: the Transaction Table, the issue bits of the tags (R57), and the queued order (R62). -/
structure Outbound where
  table     : Vector (Option TransEntry) 16
  issueBits : Vector Bool 16
  queued    : List Tag
deriving DecidableEq, Repr

/-! ## Inbound Unit -/

/-- The three states of a Duplicate Filter record (R20); `vacant` is the spec's EMPTY. -/
inductive FilterState where
  | vacant | opened | closed
deriving DecidableEq, Repr

/-- One Duplicate Filter record (R20). -/
structure FilterRecord where
  issue : Bool
  state : FilterState
deriving DecidableEq, Repr

/-- Kind and operands of an accepted request (R21). -/
inductive RequestBody where
  | read (count : Nat)
  | write (items : List MaskedWord)
  | atomic (op : AtomicOp)
deriving DecidableEq, Repr

/-- State of an Inbound Request List entry (R21): REPLY-BACKOFF with the BT that remain (R33). -/
inductive ListState where
  | fresh
  | executing
  | replyReady
  | replyOnAir
  | replyBackoff (left : Nat)
deriving DecidableEq, Repr

/-- An Inbound Request List entry (R21); `fresh` is the spec's NEW. -/
structure ListEntry where
  source    : Station
  tag       : Tag
  issue     : Bool
  page      : Page
  offset    : Offset
  body      : RequestBody
  state     : ListState
  orphaned  : Bool
  status    : Option WireStatus
  data      : List Word
  attempts  : Nat
  localAddr : Option Word
deriving DecidableEq, Repr

/-- The Inbound Unit: the list, oldest first (R21), the reply order (R31), the Duplicate Filter by source and tag
(R20), and Inbound Enable (R26). -/
structure Inbound where
  list       : List ListEntry
  replyOrder : List (Station × Tag)
  filter     : Vector (Vector FilterRecord 16) 16
  enable     : Bool
deriving DecidableEq, Repr

/-! ## Window Map Unit -/

/-- The five fields of a Window Map entry (R3). -/
structure MapEntry where
  valid        : Bool
  frame        : BitVec 20
  readMask     : BitVec 16
  writeMask    : BitVec 16
  atomicEnable : Bool
deriving DecidableEq, Repr

/-- One Map Cache entry (R5). -/
structure CacheEntry where
  page  : Page
  entry : MapEntry
deriving DecidableEq, Repr

/-- The pending fill (R8). -/
structure Fill where
  page : Page
  void : Bool
deriving DecidableEq, Repr

/-- IDLE, or BUSY with the operation taken (R14). -/
inductive MaintState where
  | idle | busyUpdate | busyRead
deriving DecidableEq, Repr

/-- Map maintenance (1.4). -/
structure Maintenance where
  state     : MaintState
  lastError : Bool
  page      : Page
  entry     : MapEntry
deriving DecidableEq, Repr

/-- The Window Map Unit: the Map Cache, least recent first (R6), the pending fill, and map maintenance. -/
structure WindowMap where
  cache : List CacheEntry
  fill  : Option Fill
  maint : Maintenance
deriving DecidableEq, Repr

/-! ## Signal Queue -/

/-- One signal record (R49). -/
structure SignalRecord where
  source : Station
  value  : Word
deriving DecidableEq, Repr

/-! ## Aperture Unit -/

/-- One Aperture Map entry (R120). -/
structure ApertureEntry where
  valid  : Bool
  target : Station
  page   : Page
deriving DecidableEq, Repr

/-- One Posted Write Buffer entry (R122); `place` is the name POSTED n of R56, `taken` its state TAKEN. -/
structure PostedEntry where
  place  : Place
  target : Station
  page   : Page
  first  : Offset
  words  : List MaskedWord
  taken  : Bool
deriving DecidableEq, Repr

/-- The Aperture Unit but for the held read, which the Host Port below holds: the Aperture Map, the Posted Write
Buffer, oldest first, and the fence failure count (R120, R122, R131). -/
structure Aperture where
  map      : Vector ApertureEntry 64
  posted   : List PostedEntry
  failures : Nat
deriving DecidableEq, Repr

/-! ## Command Slots -/

/-- State of a slot (R137): ISSUED is `fence`, with the noted set that remains, or `entry`. -/
inductive SlotState where
  | idle
  | fence (noted : List Place)
  | entry
  | done
deriving DecidableEq, Repr

/-- A command slot (R136). -/
structure Slot where
  kind          : BitVec 4
  target        : Station
  page          : BitVec 16
  offset        : BitVec 16
  count         : BitVec 8
  operandA      : Word
  operandB      : Word
  buffer        : Vector Word 16
  state         : SlotState
  cancelPending : Bool
  status        : Option Status
  result        : Word
deriving DecidableEq, Repr

/-! ## Memory Port -/

/-- The two requesters (R149). -/
inductive Requester where
  | engine | maintenance
deriving DecidableEq, Repr

/-- The cycle kinds (R149), with word count, masks and data, or operation. -/
inductive CycleKind where
  | dataRead (count : Nat)
  | maskedWrite (items : List MaskedWord)
  | locked (op : AtomicOp)
  | mapRead (page : Page)
  | mapWrite (page : Page) (entry : MapEntry)
deriving DecidableEq, Repr

/-- A waiting request (R149). -/
structure Request where
  kind : CycleKind
  addr : Word
deriving DecidableEq, Repr

/-- The discard mark of a cycle (R149): clear, or set by CONFLICT (R156) or by soft reset (R157). -/
inductive Discard where
  | clear | byConflict | bySoftReset
deriving DecidableEq, Repr

/-- The cycle in progress (R149). `old` is the word read, once the read phase of a locked cycle has ended OK (R153). -/
structure Cycle where
  requester : Requester
  request   : Request
  discard   : Discard
  old       : Option Word
deriving DecidableEq, Repr

/-- The Memory Port: the cycle in progress and one waiting place for each requester (R149). -/
structure MemoryPort where
  current     : Option Cycle
  maintenance : Option Request
  engine      : Option Request
deriving DecidableEq, Repr

/-! ## Event Queue and interrupt -/

/-- The fourteen record kinds (R162). -/
inductive EventKind where
  | postedWriteFailed | apertureReadFailed | apertureRefused | inboundRejected | replyUndelivered
  | lateResponse | duplicateAfterAnswer | stationSilent | stationReturned | stationDeparted
  | stationConflict | commandRefused | maintRefused | maintError
deriving DecidableEq, Repr

/-- The address field of a record: which of its two presence marks is set (R159, R175). -/
inductive EventAddress where
  | local32 (addr : Word)
  | aperture (offset : BitVec 18)
deriving DecidableEq, Repr

/-- An event record; a field is `none` where its presence mark is clear (R159). -/
structure EventRecord where
  kind    : EventKind
  station : Option Station
  tag     : Option Tag
  slot    : Option SlotNo
  page    : Option Page
  status  : Option Status
  address : Option EventAddress
deriving DecidableEq, Repr

/-- The Event Queue, head first, and its overflow flag (R159). -/
structure EventQueue where
  records  : List EventRecord
  overflow : Bool
deriving DecidableEq, Repr

/-- What the interrupt unit holds: the latched LINK cause (R167) and the enables (R168). The level causes follow
their conditions and INT follows the causes, so neither is held. -/
structure Interrupt where
  linkCause : Bool
  enables   : BitVec 7
deriving DecidableEq, Repr

/-! ## Host Port -/

/-- A held aperture load (R128). `presented` once its noted set has left and it has been presented. -/
structure HeldLoad where
  target    : Station
  page      : Page
  offset    : Offset
  lanes     : Lanes
  address   : BitVec 18
  noted     : List Place
  presented : Bool
deriving DecidableEq, Repr

/-- A held aperture store with the translation given at its access (R124). -/
structure HeldStore where
  target  : Station
  page    : Page
  offset  : Offset
  word    : MaskedWord
  address : BitVec 18
deriving DecidableEq, Repr

/-- The host access that is held, if any (R170). -/
inductive HeldAccess where
  | load (l : HeldLoad)
  | store (st : HeldStore)
  | fence
deriving DecidableEq, Repr

/-- How a host access ended on the host bus: completed, completed with read data, or a bus error. -/
inductive HostReply where
  | done
  | data (word : Word)
  | busError
deriving DecidableEq, Repr

/-- The Host Port: the held access (R170), the accesses that wait on the host bus (R170, R178), the CLK periods that
remain after RESET returned high (R178), and how the last access ended (pins RDY, BERR, D31-D0 of 11.7). -/
structure HostPort where
  held    : Option HeldAccess
  waiting : List Instr
  startup : Option Nat
  reply   : Option HostReply
deriving DecidableEq, Repr

/-- Input pins (11.7): STN and RATE as last sampled or shown, and whether RESET is low. -/
structure Pins where
  stn      : Station
  rate     : BitVec 2
  resetLow : Bool
deriving DecidableEq, Repr

/-! ## The whole part -/

/-- The state of the part, the local memory of its board, and the commands that wait, first in, first out. -/
structure State where
  membership : MembershipUnit
  link       : LinkUnit
  outbound   : Outbound
  inbound    : Inbound
  map        : WindowMap
  signals    : List SignalRecord
  aperture   : Aperture
  slots      : Vector Slot 4
  port       : MemoryPort
  events     : EventQueue
  interrupt  : Interrupt
  host       : HostPort
  pins       : Pins
  memory     : List Host.Cell
  pending    : List Instr
deriving DecidableEq, Repr

/-- Faults. The closed list is empty: nothing in the spec stops the SW-16, which answers every misuse by an event, a
bus error, a status or by leaving its state alone. -/
inductive Fault where
deriving DecidableEq, Repr

/-- Refusals. -/
inductive Refusal where
  /-- Raised by `exec` alone, for a command of the table that has no meaning in the model; safe. No arm raises it. -/
  | notModelled (mnemonic : String)
deriving DecidableEq, Repr

/-! ## Power-on values -/

/-- The Start Configuration at power-on: 40, 8, 3 and base 0 (R101). -/
def StartConfig.initial : StartConfig :=
  { responseTimeout := 40#8, attemptLimit := 8#4, silentThreshold := 3#3, mapBase := 0#17 }

/-- A Window Map entry with every field 0, as the maintenance entry registers hold it at reset (1.4). -/
def MapEntry.zero : MapEntry :=
  { valid := false, frame := 0#20, readMask := 0#16, writeMask := 0#16, atomicEnable := false }

/-- Map maintenance at power-on and after soft reset (R19). -/
def Maintenance.initial : Maintenance :=
  { state := .idle, lastError := false, page := 0, entry := MapEntry.zero }

/-- A slot at power-on and after soft reset (R136). -/
def Slot.initial : Slot :=
  { kind := 0#4, target := 0, page := 0#16, offset := 0#16, count := 0#8, operandA := 0#32, operandB := 0#32,
    buffer := Vector.replicate 16 0#32, state := .idle, cancelPending := false, status := none, result := 0#32 }

/-- The Link Unit detached, the medium IDLE with idle length 0, the receive buffer empty (R79, R99). -/
def LinkUnit.initial : LinkUnit :=
  { attached := false, phase := .idle, idleLength := 0, spent := false, receiveBuffer := .free, driving := none,
    slotLeft := none }

/-- The Roster with every record UNHEARD but the own one, which is SELF (R114). -/
def freshRoster (own : Station) : Vector RosterRecord 16 :=
  (Vector.replicate 16 { state := .unheard, count := 0 }).set own { state := .self, count := 0 }

/-- The Membership Unit at power-on (R118). -/
def MembershipUnit.initial : MembershipUnit :=
  { link := .offline, own := 0, rate := 0#2, config := StartConfig.initial, announcePending := false,
    leavePending := false, roster := freshRoster 0 }

/-- The Outbound Unit at power-on and after soft reset (R77). -/
def Outbound.initial : Outbound :=
  { table := Vector.replicate 16 none, issueBits := Vector.replicate 16 false, queued := [] }

/-- The Duplicate Filter with every record EMPTY, issue bit 0 (R20). -/
def emptyFilter : Vector (Vector FilterRecord 16) 16 :=
  Vector.replicate 16 (Vector.replicate 16 { issue := false, state := .vacant })

/-- The Inbound Unit at power-on and after soft reset (R40). -/
def Inbound.initial : Inbound :=
  { list := [], replyOrder := [], filter := emptyFilter, enable := false }

/-- The Window Map Unit at power-on and after soft reset (R13, R19). -/
def WindowMap.initial : WindowMap :=
  { cache := [], fill := none, maint := Maintenance.initial }

/-- The Aperture Unit at power-on (R120, R134). -/
def Aperture.initial : Aperture :=
  { map := Vector.replicate 64 { valid := false, target := 0, page := 0 }, posted := [], failures := 0 }

/-- The part in its power-on values (R178), every block as its chapter gives, with the Host Port ready. -/
def State.reset : State :=
  { membership := MembershipUnit.initial
    link := LinkUnit.initial
    outbound := Outbound.initial
    inbound := Inbound.initial
    map := WindowMap.initial
    signals := []
    aperture := Aperture.initial
    slots := Vector.replicate 4 Slot.initial
    port := { current := none, maintenance := none, engine := none }
    events := { records := [], overflow := false }
    interrupt := { linkCause := false, enables := 0#7 }
    host := { held := none, waiting := [], startup := none, reply := none }
    pins := { stn := 0, rate := 0#2, resetLow := false }
    memory := []
    pending := [] }

end Sys2Proof.Machine
end

