-- ==== Sys2Proof/Machine/Memory.lean ====
section
/-! DEFINITION. Local memory of the board as the Memory Port sees it (R1, R3, R176), and the transfers of a Local Bus
cycle on it (R151, R152). Memory is a list of (address, byte) pairs with addresses strictly rising and no entry equal
to what an unlisted address reads as. -/

namespace Sys2Proof.Machine

/-- The byte at an address. -/
def readByte : List Host.Cell → Nat → Byte
  | [], _ => Config.unlistedByte
  | (b, v) :: m, a => if a = b then v else readByte m a

/-- Put a byte at an address, keeping the canonical form. -/
def writeByte : List Host.Cell → Nat → Byte → List Host.Cell
  | [], a, v => if v = Config.unlistedByte then [] else [(a, v)]
  | (b, w) :: m, a, v =>
    if a < b then (if v = Config.unlistedByte then (b, w) :: m else (a, v) :: (b, w) :: m)
    else if a = b then (if v = Config.unlistedByte then m else (a, v) :: m)
    else (b, w) :: writeByte m a v

/-- The canonical form, above a lower bound of the addresses. -/
def memoryWfFrom : Nat → List Host.Cell → Bool
  | _, [] => true
  | lo, (a, v) :: m => decide (lo ≤ a) && decide (v ≠ Config.unlistedByte) && memoryWfFrom (a + 1) m

/-- The canonical form of local memory. -/
def memoryWf (m : List Host.Cell) : Bool := memoryWfFrom 0 m

/-- Byte lane `n` of a word: bits 31 - 8n to 24 - 8n (R176). -/
def laneByte (w : Word) (n : Nat) : Byte := BitVec.ofNat 8 (w.toNat / 2 ^ (24 - 8 * n))

/-- The word whose lanes 0 to 3 are the given bytes (R176). -/
def wordOfLanes (b0 b1 b2 b3 : Byte) : Word := b0 ++ b1 ++ b2 ++ b3

/-- The byte address of lane `n` of the word at local address `a` (R151). -/
def laneAddress (a : Word) (n : Nat) : Nat := (a + BitVec.ofNat 32 n).toNat

/-- The word at a local address. -/
def readWord (m : List Host.Cell) (a : Word) : Word :=
  wordOfLanes (readByte m (laneAddress a 0)) (readByte m (laneAddress a 1)) (readByte m (laneAddress a 2))
    (readByte m (laneAddress a 3))

/-- Write lane `n` of a word if the mask has it (R30). -/
def writeLane (m : List Host.Cell) (a : Word) (mask : Lanes) (w : Word) (n : Nat) : List Host.Cell :=
  if mask.getLsbD n then writeByte m (laneAddress a n) (laneByte w n) else m

/-- Write the lanes of the mask of a word, and no other (R30, R151). -/
def writeLanes (m : List Host.Cell) (a : Word) (mask : Lanes) (w : Word) : List Host.Cell :=
  writeLane (writeLane (writeLane (writeLane m a mask w 0) a mask w 1) a mask w 2) a mask w 3

/-- What other masters on the Local Bus wrote before a transfer (R155). -/
def writeOthers : List (Word × Byte) → List Host.Cell → List Host.Cell
  | [], m => m
  | (a, v) :: os, m => writeOthers os (writeByte m a.toNat v)

/-- The transfer that comes next; a list that has run out stands for transfers that end OK (log entry 4). -/
def firstTransfer (ts : List Transfer) : Transfer := ts.headD Transfer.plain

/-- A transfer under the Local Bus lock: no other master writes before it (R44, R153, R155). DESIGN CHOICE (log entry 21):
every other master is taken to honour the lock; what one that does not may write is left open by R44 and R155. -/
def Transfer.locked (t : Transfer) : Transfer := { t with others := [] }

/-- The end of a reading cycle: its outcome, the words read (none unless OK, R152), and memory. -/
structure ReadResult where
  outcome : BusReply
  words   : List Word
  memory  : List Host.Cell
deriving DecidableEq, Repr

/-- The read transfers of a cycle, in ascending address order; the first that fails ends it (R151, R152). -/
def readTransfers : Nat → Word → List Transfer → List Host.Cell → ReadResult
  | 0, _, _, m => { outcome := .ok, words := [], memory := m }
  | n + 1, a, ts, m =>
    let m := writeOthers (firstTransfer ts).others m
    match (firstTransfer ts).reply with
    | .ok =>
      let rest := readTransfers n (a + 4#32) ts.tail m
      { outcome := rest.outcome
        words := if rest.outcome = .ok then readWord m a :: rest.words else []
        memory := rest.memory }
    | r => { outcome := r, words := [], memory := m }

/-- A word of a write that was cut short: written in the lanes of its mask, or left as it was. -/
def writeIf (landed : Bool) (m : List Host.Cell) (a : Word) (w : MaskedWord) : List Host.Cell :=
  if landed then writeLanes m a w.mask w.data else m

/-- The write transfers of a cycle (R151, R152): the failing word may or may not have been written. -/
def writeTransfers : List MaskedWord → Word → List Transfer → List Host.Cell → BusReply × List Host.Cell
  | [], _, _, m => (.ok, m)
  | w :: ws, a, ts, m =>
    let m := writeOthers (firstTransfer ts).others m
    match (firstTransfer ts).reply with
    | .ok => writeTransfers ws (a + 4#32) ts.tail (writeLanes m a w.mask w.data)
    | r => (r, writeIf (firstTransfer ts).landed m a w)

/-- The words of a write given up when RESET goes low: any of them may have been written (R158). -/
def writeLanded : List MaskedWord → Word → List Bool → List Host.Cell → List Host.Cell
  | [], _, _, m => m
  | w :: ws, a, ls, m => writeLanded ws (a + 4#32) ls.tail (writeIf (ls.headD false) m a w)

end Sys2Proof.Machine
end

