-- ==== Sys2Proof/Machine/Operands.lean ====
section
/-! DEFINITION. How operands are read: aperture offsets and lanes (R119), local addresses (R1, R2), Window Map entry
words (R176), rights (R4), atomic results (R43), request and transaction bodies. -/

namespace Sys2Proof.Machine

/-! ## Aperture accesses -/

/-- The lanes of an access at byte `n` of a word; none where the access is misaligned (R119). -/
def accessLanes (size : AccessSize) (n : Nat) : Option Lanes :=
  match size with
  | .byte => if n = 0 then some 0b0001#4 else if n = 1 then some 0b0010#4 else if n = 2 then some 0b0100#4 else some 0b1000#4
  | .halfword => if n = 0 then some 0b0011#4 else if n = 2 then some 0b1100#4 else none
  | .word => if n = 0 then some Lanes.all else none

/-- Offset bits 17 to 12: the aperture page (R119). -/
def aperturePage (a : BitVec 18) : Fin 64 := Fin.ofNat 64 (a.toNat / 4096)

/-- Offset bits 11 to 2: the word offset (R119). -/
def apertureWord (a : BitVec 18) : Offset := Fin.ofNat 1024 (a.toNat / 4)

/-- Offset bits 1 to 0: the byte within the word (R119). -/
def apertureByte (a : BitVec 18) : Nat := a.toNat % 4

/-- The bits of a word that belong to the lanes of a mask (R176). -/
def laneMask (l : Lanes) : Word :=
  wordOfLanes (if l.getLsbD 0 then 0xFF#8 else 0#8) (if l.getLsbD 1 then 0xFF#8 else 0#8)
    (if l.getLsbD 2 then 0xFF#8 else 0#8) (if l.getLsbD 3 then 0xFF#8 else 0#8)

/-- A stored word as an entry holds it: a lane outside the mask holds 0 (R122). -/
def maskedWord (l : Lanes) (w : Word) : MaskedWord := { mask := l, data := w &&& laneMask l }

/-- A store laid over a word of an entry: its lanes join the mask, its bytes replace theirs (R123). -/
def overlay (old new : MaskedWord) : MaskedWord :=
  { mask := old.mask ||| new.mask, data := (old.data &&& ~~~ (laneMask new.mask)) ||| (new.data &&& laneMask new.mask) }

/-! ## Addresses and Window Map entries -/

/-- The local address of a word: LOCAL FRAME × 4096 + 4 × word offset (R1). -/
def localAddress (e : MapEntry) (w : Offset) : Word := BitVec.ofNat 32 (e.frame.toNat * 4096 + 4 * w.val)

/-- The local address of the Window Map entry of a page: base + 8 × p (R2). -/
def mapEntryAddress (base : BitVec 17) (p : Page) : Word := BitVec.ofNat 32 (base.toNat * 32768 + 8 * p.val)

/-- Word 0 of an entry as UPDATE writes it, bits 11 to 2 as 0 (R176). -/
def mapWord0 (e : MapEntry) : Word :=
  BitVec.ofNat 32 (e.frame.toNat * 4096 + (if e.atomicEnable then 2 else 0) + (if e.valid then 1 else 0))

/-- Word 1 of an entry: WRITE MASK above READ MASK (R176). -/
def mapWord1 (e : MapEntry) : Word := e.writeMask ++ e.readMask

/-- Put the fields of word 0 into an entry; bits 11 to 2 carry no meaning (R3, R176). -/
def MapEntry.withWord0 (e : MapEntry) (w : Word) : MapEntry :=
  { e with frame := BitVec.ofNat 20 (w.toNat / 4096), atomicEnable := w.getLsbD 1, valid := w.getLsbD 0 }

/-- Put the fields of word 1 into an entry (R176). -/
def MapEntry.withWord1 (e : MapEntry) (w : Word) : MapEntry :=
  { e with writeMask := BitVec.ofNat 16 (w.toNat / 65536), readMask := BitVec.ofNat 16 w.toNat }

/-- The entry that the two words of a map read hold (R3, R176). -/
def mapEntryOf (words : List Word) : MapEntry :=
  (MapEntry.zero.withWord0 (words.headD 0#32)).withWord1 (words.tail.headD 0#32)

/-- The two words of a map write, all lanes (R16, R151). -/
def mapEntryWords (e : MapEntry) : List MaskedWord :=
  [{ mask := Lanes.all, data := mapWord0 e }, { mask := Lanes.all, data := mapWord1 e }]

/-- May-read: bit s of READ MASK (R4). -/
def MapEntry.mayRead (e : MapEntry) (s : Station) : Bool := e.readMask.getLsbD s

/-- May-write: bit s of WRITE MASK (R4). -/
def MapEntry.mayWrite (e : MapEntry) (s : Station) : Bool := e.writeMask.getLsbD s

/-! ## Requests -/

/-- The count of a request, 1 for an atomic (R21). -/
def RequestBody.count : RequestBody → Nat
  | .read n => n
  | .write items => items.length
  | .atomic _ => 1

/-- The rights check (R29): the wire status it fails with, or none. -/
def rightsFailure (e : MapEntry) (s : Station) (b : RequestBody) : Option WireStatus :=
  match b with
  | .read _ => if e.mayRead s then none else some .notPermitted
  | .write _ => if e.mayWrite s then none else some .notPermitted
  | .atomic _ =>
    if e.mayRead s && e.mayWrite s then (if e.atomicEnable then none else some .atomicDisabled)
    else some .notPermitted

/-- The cycle a request asks for (R30, R44). -/
def RequestBody.cycle : RequestBody → CycleKind
  | .read n => .dataRead n
  | .write items => .maskedWrite items
  | .atomic op => .locked op

/-- A cycle of the Inbound Engine's entry, as against a map cycle (R149). -/
def CycleKind.isData : CycleKind → Bool
  | .dataRead _ | .maskedWrite _ | .locked _ => true
  | .mapRead _ | .mapWrite _ _ => false

/-! ## Transactions -/

/-- READ, WRITE and ATOMIC await a RESPONSE; SIGNAL and PROBE end at their acknowledge (R64). -/
def TransBody.awaitsResponse : TransBody → Bool
  | .read _ _ _ | .write _ _ _ | .atomic _ _ _ => true
  | .signal _ | .probe => false

/-- The length of the RESPONSE that fits an entry (R68); none where no RESPONSE matches. -/
def TransBody.responseLength (b : TransBody) (st : WireStatus) : Option Nat :=
  match b with
  | .read _ _ n => if st = .ok then some n else some 0
  | .atomic _ _ _ => if st = .ok then some 1 else some 0
  | .write _ _ _ => some 0
  | .signal _ | .probe => none

/-- Put words into a buffer from a place on, in order (R143). -/
def storeWords : List Word → Nat → Vector Word 16 → Vector Word 16
  | [], _, v => v
  | w :: ws, i, v => storeWords ws (i + 1) (if h : i < 16 then v.set i w h else v)

/-- Words 0 to n - 1 of a buffer, every byte mask full (R58, R142). -/
def fullWords (v : Vector Word 16) (n : Nat) : List MaskedWord :=
  (v.toList.take n).map fun w => { mask := Lanes.all, data := w }

end Sys2Proof.Machine

namespace Sys2Proof

open Machine

/-- The value a locked cycle stores, from the word read; none where COMPARE-SWAP fails its comparison (R43). -/
def AtomicOp.newValue (op : AtomicOp) (old : Word) : Option Word :=
  match op with
  | .fetchAdd a => some (old + a)
  | .swap a => some a
  | .compareSwap a b => if old = a then some b else none

/-- A wire status as a status of an origin (R73). -/
def WireStatus.toStatus : WireStatus → Status
  | .ok => .ok
  | .noWindow => .noWindow
  | .notPermitted => .notPermitted
  | .boundary => .boundary
  | .mapError => .mapError
  | .memoryError => .memoryError
  | .atomicDisabled => .atomicDisabled

/-- A failed outcome of the Memory Port as an event's status (R159). -/
def BusReply.toStatus : BusReply → Status
  | .ok => .ok
  | .dataError => .dataError
  | .noReply => .noReply

end Sys2Proof
end

