-- ==== Sys2Proof/Machine/Frame.lean ====
section
/-! DEFINITION. Frames on the Link: fields and layout (R82, R83, R177), bit insertion (R80), CRC (R84), malformed
frames (R85), and the acknowledge slot (R92, R93). -/

namespace Sys2Proof

/-! ## Codes -/

/-- The code of the kind field (R177). -/
def FrameBody.kindCode : FrameBody → Nat
  | .readReq _ _ _ => 0
  | .writeReq _ _ _ => 1
  | .atomicReq _ _ _ _ => 2
  | .signal _ => 3
  | .probe => 4
  | .response _ _ => 5
  | .announce _ => 6
  | .leave => 7
  | .unnamed c _ => 8 + c.val

/-- The class of the kinds that are named (R82). -/
def FrameBody.classCode : FrameBody → Option (Fin 4)
  | .readReq _ _ _ | .writeReq _ _ _ | .atomicReq _ _ _ _ => some 1
  | .signal _ | .probe => some 2
  | .response _ _ => some 0
  | .announce _ | .leave => some 3
  | .unnamed _ _ => none

/-- The code of the operation field (R177). -/
def AtomicOp.code : AtomicOp → Fin 4
  | .fetchAdd _ => 0
  | .swap _ => 1
  | .compareSwap _ _ => 2

/-- The operand words, A then B (R83). -/
def AtomicOp.operands : AtomicOp → List Word
  | .fetchAdd a => [a]
  | .swap a => [a]
  | .compareSwap a b => [a, b]

/-- The operation that an operation code and operand words name (R42). -/
def AtomicOp.ofCode (code : Fin 4) (operands : List Word) : Option AtomicOp :=
  match operands with
  | [a] => if code = 0 then some (.fetchAdd a) else if code = 1 then some (.swap a) else none
  | [a, b] => if code = 2 then some (.compareSwap a b) else none
  | _ => none

/-- The code of the wire status field (R177). -/
def WireStatus.code : WireStatus → Fin 8
  | .ok => 0
  | .noWindow => 1
  | .notPermitted => 2
  | .boundary => 3
  | .mapError => 4
  | .memoryError => 5
  | .atomicDisabled => 6

/-! ## Well-formed and malformed frames -/

/-- The number of items of the word part, where the kind has one (R83). -/
def FrameBody.wordPart : FrameBody → Option Nat
  | .writeReq _ _ items => some items.length
  | .atomicReq _ _ _ ops => some ops.length
  | .signal ws => some ws.length
  | .response _ ws => some ws.length
  | .unnamed _ ws => some ws.length
  | .readReq _ _ _ | .probe | .announce _ | .leave => none

/-- The word part has as many items as the length field says, so that the frame can be on the medium at all (R83). -/
def RawFrame.carriable (f : RawFrame) : Bool :=
  match f.body.wordPart with
  | some n => n == f.length.val
  | none => true

/-- The contents fit the kind, length field included (R85). -/
def RawFrame.contentsFit (f : RawFrame) : Bool :=
  match f.body with
  | .readReq _ _ n => f.length.val == 0 && decide (1 ≤ n.val) && decide (n.val ≤ 16)
  | .writeReq _ _ _ => decide (1 ≤ f.length.val) && decide (f.length.val ≤ 16)
  | .atomicReq _ _ op _ =>
    (decide (op = 0 ∨ op = 1) && f.length.val == 1) || (decide (op = 2) && f.length.val == 2)
  | .signal _ => f.length.val == 1
  | .probe => f.length.val == 0
  | .response st _ => decide (st ≠ 7) && decide (f.length.val ≤ 16)
  | .announce level => f.length.val == 0 && decide (level = Config.protocolLevel)
  | .leave => f.length.val == 0
  | .unnamed _ _ => false

/-- A good frame is malformed when its class does not match its kind or its contents do not fit (R85). -/
def RawFrame.malformed (f : RawFrame) : Bool := !(f.body.classCode == some f.cls && f.contentsFit)

/-! ## Bits -/

/-- The low `width` bits of a number, most significant first (R177). -/
def bitsOf : Nat → Nat → List Bool
  | 0, _ => []
  | k + 1, n => n.testBit k :: bitsOf k n

/-- The bits of a word, most significant byte first (R83, R177). -/
def wordBits (w : Word) : List Bool := bitsOf 32 w.toNat

/-- The bits of a WRITE-REQ item: byte mask, lane 0 first, then the data word (R177). -/
def itemBits (w : MaskedWord) : List Bool :=
  [w.mask.getLsbD 0, w.mask.getLsbD 1, w.mask.getLsbD 2, w.mask.getLsbD 3] ++ wordBits w.data

/-- The bits of a body: fixed part, then word part (R83, R177). -/
def FrameBody.bits : FrameBody → List Bool
  | .readReq p o n => bitsOf 12 p.val ++ bitsOf 10 o.val ++ bitsOf 5 n.val
  | .writeReq p o items => bitsOf 12 p.val ++ bitsOf 10 o.val ++ items.flatMap itemBits
  | .atomicReq p o op ops => bitsOf 12 p.val ++ bitsOf 10 o.val ++ bitsOf 2 op.val ++ ops.flatMap wordBits
  | .signal ws => ws.flatMap wordBits
  | .probe => []
  | .response st ws => bitsOf 3 st.val ++ ws.flatMap wordBits
  | .announce level => bitsOf 4 level.val
  | .leave => []
  | .unnamed _ ws => ws.flatMap wordBits

/-- The bits of the header after the start marker, class to length (R82, R177). -/
def RawFrame.headerBits (f : RawFrame) : List Bool :=
  bitsOf 2 f.cls.val ++ bitsOf 4 f.source.val ++ bitsOf 4 f.body.kindCode ++ bitsOf 4 f.dest.val ++
    bitsOf 4 f.tag.val ++ [f.issue] ++ bitsOf 5 f.length.val

/-- The bits the CRC covers: class to the end of the body (R84). -/
def RawFrame.coveredBits (f : RawFrame) : List Bool := f.headerBits ++ f.body.bits

/-- One bit into the CRC register, generator x^16 + x^12 + x^5 + 1 (R84). -/
def crcStep (reg : BitVec 16) (b : Bool) : BitVec 16 :=
  if reg.getLsbD 15 == b then reg <<< 1 else (reg <<< 1) ^^^ 0x1021#16

/-- The CRC of a bit string: register preset to all ones, no final inversion (R84). -/
def crc16 (bits : List Bool) : BitVec 16 := bits.foldl crcStep 0xFFFF#16

/-- Start marker, covered bits and CRC, before bit insertion (R82, R84). -/
def RawFrame.plainBits (f : RawFrame) : List Bool :=
  false :: (f.coveredBits ++ bitsOf 16 (crc16 f.coveredBits).toNat)

/-- Bit insertion: after six equal bits one of the opposite level, which counts in the run that follows (R80). -/
def insertBits : Nat → Bool → List Bool → List Bool
  | _, _, [] => []
  | run, last, b :: bs =>
    let r := if b == last then run + 1 else 1
    if r = 6 then b :: (!b) :: insertBits 1 (!b) bs else b :: insertBits r b bs

/-- Removal of inserted bits; none at an insertion violation or where an inserted bit is missing (R80). -/
def removeBits : Nat → Bool → List Bool → Option (List Bool)
  | _, _, [] => some []
  | run, last, b :: bs =>
    let r := if b == last then run + 1 else 1
    if r = 6 then
      match bs with
      | [] => none
      | c :: cs => if c == b then none else (removeBits 1 c cs).map (b :: ·)
    else (removeBits r b bs).map (b :: ·)

/-- The levels a transmitter drives from the start marker to the end of the CRC field (R80, R82). -/
def RawFrame.lineBits (f : RawFrame) : List Bool := insertBits 0 true f.plainBits

/-- BT on the medium before inserted bits, slot and delimiter included (11.6). -/
def RawFrame.bitTimes (f : RawFrame) : Nat := f.plainBits.length + Config.slotAndDelimiter

/-! ## Reading a frame -/

/-- A number of `width` bits, most significant first, and the bits that follow. -/
def takeNat : Nat → Nat → List Bool → Option (Nat × List Bool)
  | 0, acc, bs => some (acc, bs)
  | _ + 1, _, [] => none
  | k + 1, acc, b :: bs => takeNat k (2 * acc + b.toNat) bs

/-- `n` words. -/
def takeWords : Nat → List Bool → Option (List Word × List Bool)
  | 0, bs => some ([], bs)
  | n + 1, bs => do
    let (w, bs) ← takeNat 32 0 bs
    let (ws, bs) ← takeWords n bs
    pure (BitVec.ofNat 32 w :: ws, bs)

/-- A byte mask, lane 0 first (R177). -/
def takeMask : List Bool → Option (Lanes × List Bool)
  | b0 :: b1 :: b2 :: b3 :: bs => some (BitVec.ofNat 4 (b0.toNat + 2 * b1.toNat + 4 * b2.toNat + 8 * b3.toNat), bs)
  | _ => none

/-- `n` WRITE-REQ items. -/
def takeItems : Nat → List Bool → Option (List MaskedWord × List Bool)
  | 0, bs => some ([], bs)
  | n + 1, bs => do
    let (m, bs) ← takeMask bs
    let (w, bs) ← takeNat 32 0 bs
    let (ws, bs) ← takeItems n bs
    pure ({ mask := m, data := BitVec.ofNat 32 w } :: ws, bs)

/-- The body of a frame of a kind code and length (R83). -/
def takeBody (kind length : Nat) (bs : List Bool) : Option (FrameBody × List Bool) :=
  if kind = 0 then do
    let (p, bs) ← takeNat 12 0 bs
    let (o, bs) ← takeNat 10 0 bs
    let (n, bs) ← takeNat 5 0 bs
    pure (.readReq (Fin.ofNat 4096 p) (Fin.ofNat 1024 o) (Fin.ofNat 32 n), bs)
  else if kind = 1 then do
    let (p, bs) ← takeNat 12 0 bs
    let (o, bs) ← takeNat 10 0 bs
    let (items, bs) ← takeItems length bs
    pure (.writeReq (Fin.ofNat 4096 p) (Fin.ofNat 1024 o) items, bs)
  else if kind = 2 then do
    let (p, bs) ← takeNat 12 0 bs
    let (o, bs) ← takeNat 10 0 bs
    let (op, bs) ← takeNat 2 0 bs
    let (ws, bs) ← takeWords length bs
    pure (.atomicReq (Fin.ofNat 4096 p) (Fin.ofNat 1024 o) (Fin.ofNat 4 op) ws, bs)
  else if kind = 3 then do
    let (ws, bs) ← takeWords length bs
    pure (.signal ws, bs)
  else if kind = 4 then some (.probe, bs)
  else if kind = 5 then do
    let (st, bs) ← takeNat 3 0 bs
    let (ws, bs) ← takeWords length bs
    pure (.response (Fin.ofNat 8 st) ws, bs)
  else if kind = 6 then do
    let (level, bs) ← takeNat 4 0 bs
    pure (.announce (Fin.ofNat 16 level), bs)
  else if kind = 7 then some (.leave, bs)
  else do
    let (ws, bs) ← takeWords length bs
    pure (.unnamed (Fin.ofNat 8 (kind - 8)) ws, bs)

/-- The frame in the covered bits, and the bits that follow: the CRC as received. -/
def takeFrame (bs : List Bool) : Option (RawFrame × List Bool) := do
  let (cls, bs) ← takeNat 2 0 bs
  let (source, bs) ← takeNat 4 0 bs
  let (kind, bs) ← takeNat 4 0 bs
  let (dest, bs) ← takeNat 4 0 bs
  let (tag, bs) ← takeNat 4 0 bs
  let (issue, bs) ← takeNat 1 0 bs
  let (length, bs) ← takeNat 5 0 bs
  let (body, bs) ← takeBody kind length bs
  pure ({ cls := Fin.ofNat 4 cls, source := Fin.ofNat 16 source, dest := Fin.ofNat 16 dest, tag := Fin.ofNat 16 tag,
          issue := issue == 1, length := Fin.ofNat 32 length, body }, bs)

/-- What a receiver makes of the levels from the start marker to the end of the CRC field: the frame if it is good,
none if it is bad (R80, R84). The extent of the covered bits follows from kind and length (R83). -/
def receiveFrame (line : List Bool) : Option RawFrame :=
  match removeBits 0 true line with
  | some (false :: bits) =>
    match takeFrame bits with
    | some (f, crc) => if crc = bitsOf 16 (crc16 f.coveredBits).toNat then some f else none
    | none => none
  | _ => none

/-! ## The acknowledge slot -/

/-- The levels of a code in the slot (R92). -/
def AckCode.slotBits : AckCode → BitVec 3
  | .accept => 0b000#3
  | .busy => 0b001#3
  | .refuse => 0b010#3
  | .stale => 0b011#3
  | .nothing => 0b111#3

/-- The code that a reading of the slot is reported as; any other value is reported as NONE (R93). -/
def slotCode (bits : BitVec 3) : AckCode :=
  if bits = 0b000#3 then .accept else if bits = 0b001#3 then .busy else if bits = 0b010#3 then .refuse
  else if bits = 0b011#3 then .stale else .nothing

/-! ## Arbitration -/

/-- The arbitration field, class then source, six bits; the lowest value wins (R86). -/
def RawFrame.arbitrationField (f : RawFrame) : Nat := f.cls.val * 16 + f.source.val

/-- Whether a frame wins the arbitration field against one that started on the same bit boundary (R86). -/
def RawFrame.beats (f g : RawFrame) : Bool := decide (f.arbitrationField < g.arbitrationField)

end Sys2Proof
end

