-- ==== Sys2Proof/Machine/Flags.lean ====
section
/-! DEFINITION. Codes and levels that are computed and not held: status, state and event codes (R175), the interrupt
causes and INT (R166, R168). -/

namespace Sys2Proof.Machine

/-- The status codes shared by slot status and event records; code 0 is none (R175). -/
def Status.code : Status → Nat
  | .ok => 1
  | .noWindow => 2
  | .notPermitted => 3
  | .boundary => 4
  | .mapError => 5
  | .memoryError => 6
  | .atomicDisabled => 7
  | .refused => 8
  | .noAck => 9
  | .targetBusy => 10
  | .timeout => 11
  | .answerLost => 12
  | .stationSilent => 13
  | .stationDeparted => 14
  | .linkDown => 15
  | .cancelled => 16
  | .badCommand => 17
  | .noTranslation => 18
  | .dataError => 19
  | .noReply => 20

/-- The link state codes (R175). -/
def LinkState.code : LinkState → Nat
  | .offline => 0
  | .listening => 1
  | .announcing => 2
  | .online => 3
  | .draining => 4
  | .conflict => 5

/-- The Roster state codes (R175). -/
def RosterState.code : RosterState → Nat
  | .unheard => 0
  | .present => 1
  | .silent => 2
  | .departed => 3
  | .self => 4

/-- The slot state codes: IDLE, ISSUED, DONE (R175). -/
def SlotState.code : SlotState → Nat
  | .idle => 0
  | .fence _ => 1
  | .entry => 1
  | .done => 2

/-- The event kind codes; code 0 is NONE (R175). -/
def EventKind.code : EventKind → Nat
  | .postedWriteFailed => 1
  | .apertureReadFailed => 2
  | .apertureRefused => 3
  | .inboundRejected => 4
  | .replyUndelivered => 5
  | .lateResponse => 6
  | .duplicateAfterAnswer => 7
  | .stationSilent => 8
  | .stationReturned => 9
  | .stationDeparted => 10
  | .stationConflict => 11
  | .commandRefused => 12
  | .maintRefused => 13
  | .maintError => 14

/-- 1 where a condition holds. -/
def flag (b : Bool) : Nat := if b then 1 else 0

/-- The SLOT-DONE cause of a slot is high while the slot is DONE (R143, R166). -/
def Slot.isDone (sl : Slot) : Bool := sl.state == .done

/-- The seven interrupt causes as they stand: SLOT-DONE 0 to 3, SIGNAL, EVENT, LINK (R166, R175). -/
def State.causes (s : State) : BitVec 7 :=
  BitVec.ofNat 7
    (flag s.slots[0].isDone + 2 * flag s.slots[1].isDone + 4 * flag s.slots[2].isDone + 8 * flag s.slots[3].isDone +
      16 * flag (!s.signals.isEmpty) + 32 * flag (!s.events.records.isEmpty) + 64 * flag s.interrupt.linkCause)

/-- INT is asserted while a cause is high with its enable 1 (R168); it is not driven while RESET is low (R178). -/
def State.int (s : State) : Bool := !s.pins.resetLow && (s.causes &&& s.interrupt.enables) != 0#7

end Sys2Proof.Machine
end

