-- ==== Sys2Proof/Machine/Ops.lean ====
section
/-! DEFINITION. The operations that the meanings share: the Host Port, the Event Queue, the Roster and link state, the
Duplicate Filter, the Posted Write Buffer's bookkeeping, and the Memory Port's order of service. -/

namespace Sys2Proof.Machine

/-- What a command answers. -/
abbrev Result := Host.Outcome State Fault Refusal

/-! ## Taking a command -/

/-- A happening in the part. While the RESET pin is low the part does nothing (R178). -/
def running (s : State) (f : State → State) : Result :=
  if s.pins.resetLow then .next s else .next (f s)

/-- The Host Port takes no access: RESET is low or the start-up after it runs (R178), an access is held, or earlier
accesses still wait on the host bus (R170). -/
def State.hostBlocked (s : State) : Bool :=
  s.pins.resetLow || s.host.startup.isSome || s.host.held.isSome || !s.host.waiting.isEmpty

/-- An access joins those that wait on the host bus, and is taken after the held access ends (R170, R178). -/
def State.waitOnBus (c : Instr) (s : State) : State :=
  { s with host := { s.host with waiting := s.host.waiting ++ [c] } }

/-- How a host access ends on the host bus. -/
def State.answerHost (r : HostReply) (s : State) : State :=
  { s with host := { s.host with reply := some r } }

/-- A held access ends (R170). -/
def State.releaseHost (r : HostReply) (s : State) : State :=
  { s with host := { s.host with held := none, reply := some r } }

/-- The Host Port holds an access on the host bus (R170). -/
def State.holdHost (h : HeldAccess) (s : State) : State :=
  { s with host := { s.host with held := some h } }

/-- A host access `c`: it waits while the Host Port takes none, and else has its effect (R169, R170). -/
def hostAccess (c : Instr) (s : State) (f : State → State) : Result :=
  if s.hostBlocked then .next (s.waitOnBus c) else .next (f s)

/-- A register write completes at once, and takes effect at its completion (R169). -/
def hostWrite (c : Instr) (s : State) (f : State → State) : Result :=
  hostAccess c s fun s => f (s.answerHost .done)

/-! ## Event Queue -/

/-- A record joins the tail, or is discarded with the overflow flag set when 16 are present (R160). -/
def EventQueue.append (q : EventQueue) (r : EventRecord) : EventQueue :=
  if q.records.length < Config.eventCapacity then { q with records := q.records ++ [r] } else { q with overflow := true }

/-- POP: the head goes; the pop that empties the queue clears the overflow flag; an empty queue ignores it (R164). -/
def EventQueue.pop (q : EventQueue) : EventQueue :=
  match q.records with
  | [] => q
  | [_] => { records := [], overflow := false }
  | _ :: rs => { q with records := rs }

/-- A record of a kind with no field (R162). -/
def EventRecord.bare (k : EventKind) : EventRecord :=
  { kind := k, station := none, tag := none, slot := none, page := none, status := none, address := none }

/-- A block appends a record (R160). -/
def State.addEvent (r : EventRecord) (s : State) : State := { s with events := s.events.append r }

/-- POSTED-WRITE-FAILED and APERTURE-READ-FAILED: target, window page, status (R162). -/
def EventRecord.failure (k : EventKind) (target : Station) (page : Page) (st : Status) : EventRecord :=
  { EventRecord.bare k with station := some target, page := some page, status := some st }

/-- APERTURE-REFUSED: aperture offset, LINK-DOWN or NO-TRANSLATION (R162). -/
def EventRecord.refusedAccess (a : BitVec 18) (st : Status) : EventRecord :=
  { EventRecord.bare .apertureRefused with address := some (.aperture a), status := some st }

/-- INBOUND-REJECTED: source, tag, window page, wire status, and the local address when the entry holds one (R30). -/
def EventRecord.rejected (e : ListEntry) (st : WireStatus) : EventRecord :=
  { EventRecord.bare .inboundRejected with
    station := some e.source, tag := some e.tag, page := some e.page, status := some st.toStatus
    address := e.localAddr.map .local32 }

/-- REPLY-UNDELIVERED, LATE-RESPONSE and DUPLICATE-AFTER-ANSWER: station and tag (R162). -/
def EventRecord.tagged (k : EventKind) (i : Station) (t : Tag) : EventRecord :=
  { EventRecord.bare k with station := some i, tag := some t }

/-- STATION-SILENT, STATION-RETURNED and STATION-DEPARTED: station (R162). -/
def EventRecord.ofStation (k : EventKind) (i : Station) : EventRecord :=
  { EventRecord.bare k with station := some i }

/-- COMMAND-REFUSED: slot (R139). -/
def EventRecord.ofSlot (k : SlotNo) : EventRecord :=
  { EventRecord.bare .commandRefused with slot := some k }

/-- MAINT-ERROR: local address and outcome (R16, R17). -/
def EventRecord.maintFailure (a : Word) (r : BusReply) : EventRecord :=
  { EventRecord.bare .maintError with address := some (.local32 a), status := some r.toStatus }

/-! ## Membership Unit -/

/-- Each change of the link state sets the LINK cause (R102, R167). -/
def State.setLink (l : LinkState) (s : State) : State :=
  if s.membership.link = l then s
  else { s with membership := { s.membership with link := l }, interrupt := { s.interrupt with linkCause := true } }

/-- The link states in which slots are driven, requests decided and responses matched (R22, R68, R92). -/
def State.takesPart (s : State) : Bool := s.membership.link == .online || s.membership.link == .draining

/-- Set a Roster record. -/
def State.setRoster (i : Station) (r : RosterRecord) (s : State) : State :=
  { s with membership := { s.membership with roster := s.membership.roster.set i r } }

/-- A station is heard (R115). -/
def State.hear (i : Station) (s : State) : State :=
  if i = s.membership.own then s
  else
    let was := s.membership.roster[i].state
    let s := s.setRoster i { state := .present, count := 0 }
    if was = .silent ∨ was = .departed then s.addEvent (.ofStation .stationReturned i) else s

/-- A well-formed LEAVE is heard (R116). -/
def State.hearLeave (i : Station) (s : State) : State :=
  if i = s.membership.own then s
  else
    let was := s.membership.roster[i].state
    let s := s.setRoster i { state := .departed, count := 0 }
    if was = .departed then s else s.addEvent (.ofStation .stationDeparted i)

/-- A NO-ACK end is counted against the target (R117). -/
def State.countNoAck (i : Station) (s : State) : State :=
  let r := s.membership.roster[i]
  if r.state = .unheard ∨ r.state = .present then
    if r.count + 1 < s.membership.config.silentThreshold.toNat then s.setRoster i { r with count := r.count + 1 }
    else (s.setRoster i { state := .silent, count := s.membership.config.silentThreshold.toNat }).addEvent
      (.ofStation .stationSilent i)
  else s

/-- A backoff interval: (64 × n + 8 × own station number) BT (R33, R65). -/
def State.backoffBt (s : State) (n : Nat) : Nat := 64 * n + 8 * s.membership.own.val

/-- The response timer at its start, in ns (R67). -/
def State.timerNs (s : State) : Nat := s.membership.config.responseTimeout.toNat * Config.timeoutUnitNs

/-! ## Duplicate Filter -/

/-- The record of a source and tag (R20). -/
def State.filterAt (s : State) (i : Station) (t : Tag) : FilterRecord := s.inbound.filter[i][t]

/-- Set the record of a source and tag. -/
def State.setFilter (i : Station) (t : Tag) (r : FilterRecord) (s : State) : State :=
  { s with inbound := { s.inbound with filter := s.inbound.filter.set i (s.inbound.filter[i].set t r) } }

/-- The record of a removed reply becomes CLOSED if it holds the entry's issue bit and is OPEN (R32). -/
def State.closeFilter (i : Station) (t : Tag) (issue : Bool) (s : State) : State :=
  if s.filterAt i t = { issue, state := .opened } then s.setFilter i t { issue, state := .closed } else s

/-- A purge of a source (R36, R37): its entries go, its EXECUTING entry is orphaned, its records become EMPTY. -/
def State.purge (i : Station) (s : State) : State :=
  { s with inbound :=
    { s.inbound with
      list := (s.inbound.list.filter fun e => decide (e.source ≠ i) || e.state == .executing).map
        fun e => if e.source = i then { e with orphaned := true } else e
      replyOrder := s.inbound.replyOrder.filter fun p => decide (p.1 ≠ i)
      filter := s.inbound.filter.set i (Vector.replicate 16 { issue := false, state := .vacant }) } }

/-! ## Memory Port -/

/-- A request as it starts: the address of a map cycle is taken from the base in force (R2, R150). -/
def Request.start (q : Request) (r : Requester) (base : BitVec 17) : Cycle :=
  { requester := r
    request :=
      match q.kind with
      | .mapRead p => { q with addr := mapEntryAddress base p }
      | .mapWrite p _ => { q with addr := mapEntryAddress base p }
      | _ => q
    discard := .clear
    old := none }

/-- A request reaches the port: it starts at once or waits in its requester's place (R150). -/
def State.portRequest (r : Requester) (q : Request) (s : State) : State :=
  match s.port.current, r with
  | none, _ => { s with port := { s.port with current := some (q.start r s.membership.config.mapBase) } }
  | some _, .engine => { s with port := { s.port with engine := some q } }
  | some _, .maintenance => { s with port := { s.port with maintenance := some q } }

/-- A cycle has ended: MAINTENANCE goes first, then ENGINE, else the port becomes idle (R150). -/
def State.portNext (s : State) : State :=
  match s.port.maintenance, s.port.engine with
  | some q, _ =>
    { s with port :=
      { s.port with current := some (q.start .maintenance s.membership.config.mapBase), maintenance := none } }
  | none, some q =>
    { s with port := { s.port with current := some (q.start .engine s.membership.config.mapBase), engine := none } }
  | none, none => { s with port := { s.port with current := none } }

/-- The map read or map write of a page, as a request. -/
def mapReadRequest (base : BitVec 17) (p : Page) : Request := { kind := .mapRead p, addr := mapEntryAddress base p }

/-- The map write of a page, as a request (R16). -/
def mapWriteRequest (base : BitVec 17) (p : Page) (e : MapEntry) : Request :=
  { kind := .mapWrite p e, addr := mapEntryAddress base p }

end Sys2Proof.Machine
end

