-- ==== Sys2Proof/Machine/Transactions.lean ====
section
/-! DEFINITION. What the Outbound Unit does (chapter 4), with the two blocks it hands statuses to (R73) and the accept
decision (R22 to R25) that a loopback presentation passes. -/

namespace Sys2Proof.Machine

/-! ## The Posted Write Buffer's removals and the fence -/

/-- A posted entry has left: it leaves every noted set (R128, R130). -/
def SlotState.forget (p : Place) : SlotState → SlotState
  | .fence noted => .fence (noted.filter fun q => decide (q ≠ p))
  | st => st

/-- A posted entry has left the held load's noted set (R128). -/
def HeldAccess.forget (p : Place) : HeldAccess → HeldAccess
  | .load l => .load { l with noted := l.noted.filter fun q => decide (q ≠ p) }
  | h => h

/-- Take an entry out of the buffer and out of every noted set (R122, R127). -/
def State.dropPosted (p : Place) (s : State) : State :=
  { s with
    aperture := { s.aperture with posted := s.aperture.posted.filter fun e => decide (e.place ≠ p) }
    slots := s.slots.map fun sl => { sl with state := sl.state.forget p }
    host := { s.host with held := s.host.held.map (HeldAccess.forget p) } }

/-- A posted write ended without OK: one more failure, saturating at 255, and a record (R127, R131). -/
def State.failPosted (e : PostedEntry) (st : Status) (s : State) : State :=
  { s with aperture := { s.aperture with failures := min (s.aperture.failures + 1) Config.fenceLimit } }.addEvent
    (.failure .postedWriteFailed e.target e.page st)

/-- The posted entry of a place. -/
def State.postedAt (s : State) (p : Place) : Option PostedEntry :=
  s.aperture.posted.find? fun e => e.place == p

/-- The transaction of a posted entry has ended (R127). -/
def State.endPosted (p : Place) (st : Status) (s : State) : State :=
  match s.postedAt p with
  | none => s
  | some e => if st = .ok then s.dropPosted p else (s.dropPosted p).failPosted e st

/-! ## The end of a transaction -/

/-- The held load ends (R129). -/
def State.endLoad (st : Status) (data : List Word) (s : State) : State :=
  match s.host.held with
  | some (.load l) =>
    if st = .ok then s.releaseHost (.data (data.headD 0#32))
    else (s.releaseHost .busError).addEvent (.failure .apertureReadFailed l.target l.page st)
  | _ => s

/-- The kinds a slot can name (R175). -/
def Slot.isAtomic (sl : Slot) : Bool := sl.kind == 3#4 || sl.kind == 4#4 || sl.kind == 5#4

/-- A slot receives its status and results (R143). -/
def Slot.finish (sl : Slot) (st : Status) (data : List Word) : Slot :=
  let sl := { sl with state := .done, status := some st, cancelPending := false }
  if st = .ok then
    if sl.kind = 1#4 then { sl with buffer := storeWords data 0 sl.buffer }
    else if sl.isAtomic then { sl with result := data.headD 0#32 }
    else sl
  else sl

/-- Set a slot. -/
def State.setSlot (k : SlotNo) (sl : Slot) (s : State) : State := { s with slots := s.slots.set k sl }

/-- An origin receives its one status, with data on OK (R73). -/
def State.deliver (o : Origin) (st : Status) (data : List Word) (s : State) : State :=
  match o with
  | .apertureRead => s.endLoad st data
  | .posted p => s.endPosted p st
  | .slot k => s.setSlot k (s.slots[k].finish st data)

/-- The entry of a tag. -/
def State.entryAt (s : State) (t : Tag) : Option TransEntry := s.outbound.table[t]

/-- WAITING, with whatever remains of the timer. -/
def TransState.isWaiting : TransState → Bool
  | .waiting _ => true
  | _ => false

/-- Set the entry of a tag. -/
def State.setEntry (t : Tag) (e : TransEntry) (s : State) : State :=
  { s with outbound := { s.outbound with table := s.outbound.table.set t (some e) } }

/-- Free a tag; its issue bit is kept and it leaves the queued order (R57, R73). -/
def State.freeEntry (t : Tag) (s : State) : State :=
  { s with outbound :=
    { s.outbound with
      table := s.outbound.table.set t none
      queued := s.outbound.queued.filter fun u => decide (u ≠ t) } }

/-- An entry ends: it is freed and its status goes to its origin, CANCELLED where it is marked (R73, R75). -/
def State.endEntry (t : Tag) (st : Status) (data : List Word) (s : State) : State :=
  match s.entryAt t with
  | none => s
  | some e => (s.freeEntry t).deliver e.origin (if e.cancel then .cancelled else st) data

/-! ## Attempts -/

/-- Whether NO-ACK is reported to the Roster: a medium entry, not marked (R66, R71, R75). -/
def State.reportNoAck (e : TransEntry) (s : State) : State :=
  if e.cancel ∨ e.target = s.membership.own then s else s.countNoAck e.target

/-- An attempt has ended with a code (R64, R65, R66, R75). -/
def State.afterAttempt (t : Tag) (code : AckCode) (s : State) : State :=
  match s.entryAt t with
  | none => s
  | some e =>
    let e := { e with attempts := e.attempts + 1, lastCode := some code }
    let more := !e.cancel && decide (e.attempts < s.membership.config.attemptLimit.toNat)
    match code with
    | .accept =>
      if e.body.awaitsResponse then s.setEntry t { e with state := .waiting s.timerNs } else s.endEntry t .ok []
    | .refuse => s.endEntry t .refused []
    | .stale => s.endEntry t .answerLost []
    | .busy =>
      if more then s.setEntry t { e with state := .backoff (s.backoffBt e.attempts) } else s.endEntry t .targetBusy []
    | .nothing =>
      if more then s.setEntry t { e with state := .backoff (s.backoffBt e.attempts) }
      else (s.endEntry t .noAck []).reportNoAck e

/-! ## The accept decision -/

/-- What a frame or loopback presentation brings to the accept decision (R22). -/
inductive Offer where
  | request (page : Page) (offset : Offset) (body : RequestBody)
  | signal (value : Word)
deriving DecidableEq, Repr

/-- Room check, first two cases (R23): the list holds 8 entries, or the Signal Queue 8 records. -/
def State.full (s : State) : Offer → Bool
  | .request _ _ _ => decide (Config.inboundCapacity ≤ s.inbound.list.length)
  | .signal _ => decide (Config.signalCapacity ≤ s.signals.length)

/-- Acceptance (R24, R49): the list or the Signal Queue gains the newest, and the record is set. -/
def State.enlist (i : Station) (t : Tag) (issue : Bool) (o : Offer) (s : State) : State :=
  match o with
  | .request page offset body =>
    let e : ListEntry :=
      { source := i, tag := t, issue, page, offset, body, state := .fresh, orphaned := false, status := none
        data := [], attempts := 0, localAddr := none }
    ({ s with inbound := { s.inbound with list := s.inbound.list ++ [e] } } : State).setFilter i t
      { issue, state := .opened }
  | .signal value =>
    ({ s with signals := s.signals ++ [{ source := i, value }] } : State).setFilter i t { issue, state := .closed }

/-- The accept decision: filter, refusal, room, acceptance (R22 to R24, R48). -/
def acceptDecision (i : Station) (t : Tag) (issue : Bool) (o : Offer) (s : State) : AckCode × State :=
  let r := s.filterAt i t
  if r = { issue, state := .opened } then (.accept, s)
  else if r = { issue, state := .closed } then
    match o with
    | .signal _ => (.accept, s)
    | .request _ _ _ => (.stale, s.addEvent (.tagged .duplicateAfterAnswer i t))
  else if !s.inbound.enable ∨ s.membership.link = .draining then (.refuse, s)
  else if s.full o ∨ r.state = .opened then (.busy, s)
  else (.accept, s.enlist i t issue o)

/-! ## Loopback -/

/-- The words of a WRITE, read from its origin's buffer (R58). -/
def State.writeItems (s : State) (o : Origin) (count : Nat) : List MaskedWord :=
  match o with
  | .posted p => ((s.postedAt p).map PostedEntry.words).getD []
  | .slot k => fullWords s.slots[k].buffer count
  | .apertureRead => []

/-- What a loopback presentation carries; none for a PROBE (R25, R55). -/
def State.loopbackOffer (s : State) (e : TransEntry) : Option Offer :=
  match e.body with
  | .read p o n => some (.request p o (.read n))
  | .write p o n => some (.request p o (.write (s.writeItems e.origin n)))
  | .atomic p o op => some (.request p o (.atomic op))
  | .signal v => some (.signal v)
  | .probe => none

/-- The own Inbound Unit's answer to a loopback presentation (R25, R54, R55, R71). -/
def State.loopbackAnswer (t : Tag) (e : TransEntry) (s : State) : AckCode × State :=
  if s.takesPart then
    match s.loopbackOffer e with
    | some o => acceptDecision s.membership.own t e.issue o s
    | none => (.accept, s)
  else (.nothing, s)

/-- A loopback entry is ON-AIR and presented to the own Inbound Unit, one attempt (R71). -/
def State.presentLoopback (t : Tag) (s : State) : State :=
  match s.entryAt t with
  | none => s
  | some e =>
    let s := s.setEntry t { e with state := .onAir }
    let r := s.loopbackAnswer t e
    r.2.afterAttempt t r.1

/-! ## Presentation and allocation -/

/-- The tags, lowest first. -/
def allTags : List Tag := [0, 1, 2, 3, 4, 5, 6, 7, 8, 9, 10, 11, 12, 13, 14, 15]

/-- The lowest free tag (R57). -/
def State.freeTag (s : State) : Option Tag := allTags.find? fun t => (s.entryAt t).isNone

/-- A posted origin's buffer entry becomes TAKEN at its allocation (R61, R125). -/
def State.take (o : Origin) (s : State) : State :=
  match o with
  | .posted p =>
    { s with aperture :=
      { s.aperture with posted := s.aperture.posted.map fun e => if e.place = p then { e with taken := true } else e } }
  | .slot k => s.setSlot k { s.slots[k] with state := .entry }
  | .apertureRead =>
    match s.host.held with
    | some (.load l) => s.holdHost (.load { l with presented := true })
    | _ => s

/-- Allocation of the lowest free tag (R57, R61); a loopback entry is presented at once (R71). -/
def State.allocate (o : Origin) (target : Station) (body : TransBody) (s : State) : State :=
  match s.freeTag with
  | none => s
  | some t =>
    let issue := !s.outbound.issueBits[t]
    let loopback := decide (target = s.membership.own)
    let e : TransEntry :=
      { issue, origin := o, target, body, state := if loopback then .onAir else .queued, attempts := 0
        lastCode := none, cancel := false }
    let s := s.take o
    let s : State :=
      { s with outbound :=
        { table := s.outbound.table.set t (some e)
          issueBits := s.outbound.issueBits.set t issue
          queued := if loopback then s.outbound.queued else s.outbound.queued ++ [t] } }
    if loopback then s.presentLoopback t else s

/-- The status a presentation ends with at a check, if any (R59, R60). -/
def State.presentationCheck (s : State) (o : Origin) (target : Station) (body : TransBody) : Option Status :=
  let posted := match o with | .posted _ => true | _ => false
  if s.membership.link = .online ∨ (s.membership.link = .draining ∧ posted = true) then
    if body = .probe then none
    else
      match s.membership.roster[target].state with
      | .silent => some .stationSilent
      | .departed => some .stationDeparted
      | _ => none
  else some .linkDown

/-- An origin presents its transaction (R58 to R61). -/
def State.present (o : Origin) (target : Station) (body : TransBody) (s : State) : State :=
  match s.presentationCheck o target body with
  | some st => s.deliver o st []
  | none => s.allocate o target body

/-! ## Response matching -/

/-- Whether an entry matches a RESPONSE, and its length fits (R68). -/
def TransEntry.fits (e : TransEntry) (i : Station) (issue : Bool) (st : WireStatus) (data : List Word) : Bool :=
  e.issue == issue && e.target == i && e.body.responseLength st == some data.length

/-- Response matching (R68, R69, R72): ACCEPT ends the entry, STALE records LATE-RESPONSE. -/
def matchResponse (i : Station) (t : Tag) (issue : Bool) (st : WireStatus) (data : List Word) (s : State) :
    AckCode × State :=
  match s.entryAt t with
  | some e =>
    if e.fits i issue st data then (.accept, s.endEntry t st.toStatus data)
    else (.stale, s.addEvent (.tagged .lateResponse i t))
  | none => (.stale, s.addEvent (.tagged .lateResponse i t))

end Sys2Proof.Machine
end

