-- ==== Sys2Proof/Machine/Presentation.lean ====
section
/-! DEFINITION. The presentation of posted entries, held loads and slots, the placing of stores, and what the removal of
a posted entry brings about in the same happening (chapter 7, R141). -/

namespace Sys2Proof.Machine

/-! ## Slots -/

/-- Page and offset within range (R140). -/
def Slot.addressOk (sl : Slot) : Bool := decide (sl.page.toNat ≤ 4095) && decide (sl.offset.toNat ≤ 1023)

/-- Word count within range (R140). -/
def Slot.countOk (sl : Slot) : Bool := decide (1 ≤ sl.count.toNat) && decide (sl.count.toNat ≤ 16)

/-- The transaction a slot describes; none where GO answers BAD-COMMAND (R140, R142, R175). -/
def Slot.transaction (sl : Slot) : Option TransBody :=
  let p := Fin.ofNat 4096 sl.page.toNat
  let o := Fin.ofNat 1024 sl.offset.toNat
  if sl.kind = 1#4 then (if sl.countOk && sl.addressOk then some (.read p o sl.count.toNat) else none)
  else if sl.kind = 2#4 then (if sl.countOk && sl.addressOk then some (.write p o sl.count.toNat) else none)
  else if sl.kind = 3#4 then (if sl.addressOk then some (.atomic p o (.fetchAdd sl.operandA)) else none)
  else if sl.kind = 4#4 then (if sl.addressOk then some (.atomic p o (.swap sl.operandA)) else none)
  else if sl.kind = 5#4 then
    (if sl.addressOk then some (.atomic p o (.compareSwap sl.operandA sl.operandB)) else none)
  else if sl.kind = 6#4 then some (.signal sl.operandA)
  else if sl.kind = 7#4 then some .probe
  else none

/-- The posted entries for a target that stand in the buffer now: a noted set (R128, R130, R141). -/
def State.notedFor (s : State) (target : Station) : List Place :=
  (s.aperture.posted.filter fun e => e.target == target).map PostedEntry.place

/-- A slot whose noted entries have all left is presented (R141). -/
def State.presentSlot (k : SlotNo) (s : State) : State :=
  match s.slots[k].state, s.slots[k].transaction with
  | .fence [], some body => s.present (.slot k) s.slots[k].target body
  | _, _ => s

/-! ## Stores -/

/-- The last word of an entry under an overlay (R123). -/
def overlayLast : List MaskedWord → MaskedWord → List MaskedWord
  | [], _ => []
  | [w], new => [overlay w new]
  | w :: ws, new => w :: overlayLast ws new

/-- The newest entry with a store merged into it, where it may merge (R123). -/
def PostedEntry.merge (e : PostedEntry) (st : HeldStore) : Option PostedEntry :=
  if e.taken = false ∧ e.target = st.target ∧ e.page = st.page then
    if st.offset.val + 1 = e.first.val + e.words.length then some { e with words := overlayLast e.words st.word }
    else if st.offset.val = e.first.val + e.words.length ∧ e.words.length < Config.postedWords then
      some { e with words := e.words ++ [st.word] }
    else none
  else none

/-- The places, lowest first. -/
def allPlaces : List Place := [0, 1, 2, 3, 4, 5, 6, 7]

/-- A place that no entry of the buffer has. -/
def State.freePlace (s : State) : Place :=
  (allPlaces.find? fun p => (s.postedAt p).isNone).getD 0

/-- Present a posted entry (R125, R126). -/
def State.presentPosted (e : PostedEntry) (s : State) : State :=
  s.present (.posted e.place) e.target (.write e.page e.first e.words.length)

/-- A new entry is appended; it is presented at once if the buffer holds no other for its target (R123, R125). -/
def State.appendPosted (st : HeldStore) (s : State) : State :=
  let e : PostedEntry :=
    { place := s.freePlace, target := st.target, page := st.page, first := st.offset, words := [st.word], taken := false }
  let alone := (s.notedFor st.target).isEmpty
  let s : State := { s with aperture := { s.aperture with posted := s.aperture.posted ++ [e] } }
  if alone then s.presentPosted e else s

/-- The buffer with a store merged into its newest entry, where it may merge (R123). -/
def mergeStore (posted : List PostedEntry) (st : HeldStore) : Option (List PostedEntry) :=
  match posted.getLast? with
  | some e => (e.merge st).map fun e' => posted.dropLast ++ [e']
  | none => none

/-- A translated store is placed, or held if it can neither merge nor find room (R123, R124). -/
def State.placeStore (st : HeldStore) (s : State) : State :=
  match mergeStore s.aperture.posted st with
  | some posted => ({ s with aperture := { s.aperture with posted } } : State).releaseHost .done
  | none =>
    if s.aperture.posted.length < Config.postedCapacity then (s.releaseHost .done).appendPosted st
    else s.holdHost (.store st)

/-- The end of a held store (R124): placed in ONLINE once an entry has left, merged or appended as the buffer then stands;
in CONFLICT a bus error and a record. -/
def State.endHeldStore (s : State) : State :=
  match s.host.held with
  | some (.store st) =>
    if s.membership.link = .conflict then (s.releaseHost .busError).addEvent (.refusedAccess st.address .linkDown)
    else if s.membership.link = .online ∧ s.aperture.posted.length < Config.postedCapacity then s.placeStore st
    else s
  | _ => s

/-! ## Loads and the fence -/

/-- A held load whose noted entries have all left is presented (R128). -/
def State.presentLoad (s : State) : State :=
  match s.host.held with
  | some (.load l) =>
    if l.noted = [] ∧ l.presented = false then s.present .apertureRead l.target (.read l.page l.offset 1) else s
  | _ => s

/-- The fence read completes: the failure count is returned and becomes 0 (R132). -/
def State.completeFence (s : State) : State :=
  ({ s with aperture := { s.aperture with failures := 0 } } : State).releaseHost
    (.data (BitVec.ofNat 32 s.aperture.failures))

/-! ## The drain (R109) -/

/-- The three collections that a drain waits for are empty (R109). -/
def State.drained (s : State) : Bool :=
  s.outbound.table.toList.all Option.isNone && s.aperture.posted.isEmpty && s.inbound.list.isEmpty

/-- The LEAVE frame becomes pending in DRAINING once the three collections are empty (R109). -/
def State.checkDrain (s : State) : State :=
  if s.membership.link = .draining ∧ s.drained = true then
    { s with membership := { s.membership with leavePending := true } }
  else s

/-! ## What follows at once from a removal (R127) -/

/-- An entry is eligible: OPEN, the oldest for its target, no entry for that target TAKEN (R125). -/
def State.eligible (s : State) (e : PostedEntry) : Bool :=
  !e.taken && ((s.aperture.posted.find? fun f => f.target == e.target) == some e) &&
    !(s.aperture.posted.any fun f => f.target == e.target && f.taken)

/-- A held store can be placed (R124). -/
def State.storeDue (s : State) : Bool :=
  match s.host.held with
  | some (.store _) =>
    s.membership.link == .conflict ||
      (s.membership.link == .online && decide (s.aperture.posted.length < Config.postedCapacity))
  | _ => false

/-- A held load has nothing left to wait for and is not presented yet (R128). -/
def State.loadDue (s : State) : Bool :=
  match s.host.held with
  | some (.load l) => l.noted.isEmpty && !l.presented
  | _ => false

/-- A slot that has nothing left to wait for (R141). -/
def State.slotDue (s : State) : Option SlotNo :=
  ([0, 1, 2, 3] : List SlotNo).find? fun k => s.slots[k].state == .fence []

/-- A held fence read finds the buffer empty (R132). -/
def State.fenceDue (s : State) : Bool := s.host.held == some .fence && s.aperture.posted.isEmpty

/-- The next follow-on of a removal, in the order of R127: the entry that has become eligible, the held store, the held
load or a slot, the fence read. -/
def State.followOnce (s : State) : Option State :=
  match s.aperture.posted.find? s.eligible with
  | some e => some (s.presentPosted e)
  | none =>
    if s.storeDue then some s.endHeldStore
    else if s.loadDue then some s.presentLoad
    else
      match s.slotDue with
      | some k => some (s.presentSlot k)
      | none => if s.fenceDue then some s.completeFence else none

/-- Follow-ons one after the other, until none is due. -/
def State.followOns : Nat → State → State
  | 0, s => s
  | n + 1, s =>
    match s.followOnce with
    | some s' => s'.followOns n
    | none => s

/-- At most 9 presentations of posted entries, one store, one load or fence read and 4 slots follow from a removal. -/
def followOnBound : Nat := 16

/-- What the end of a transaction brings about in the same happening: the follow-ons of a removal from the Posted Write
Buffer (R127), each with the removals it makes in its turn, then the end of the drain (R109). -/
def State.followThrough (s : State) : State := (s.followOns followOnBound).checkDrain

/-- Present the entry of a place if it is eligible (R125); where a check ends it, its removal has its follow-ons (R127). -/
def State.presentPlace (p : Place) (s : State) : State :=
  match s.postedAt p with
  | some e =>
    if s.eligible e then
      let s := s.presentPosted e
      if (s.postedAt p).isNone then s.followThrough else s
    else s
  | none => s

end Sys2Proof.Machine
end

