-- ==== Sys2Proof/Machine/Execution.lean ====
section
/-! DEFINITION. What the Inbound Engine and the Window Map Unit do for the request that is executing (2.5, 1.3, 3.2),
and how Memory Port cycles end (chapter 9). -/

namespace Sys2Proof.Machine

/-! ## The executing entry -/

/-- The EXECUTING entry (R21: at most one). -/
def State.executing (s : State) : Option ListEntry := s.inbound.list.find? fun e => e.state == .executing

/-- Change the EXECUTING entry. -/
def State.updateExecuting (f : ListEntry → ListEntry) (s : State) : State :=
  { s with inbound := { s.inbound with list := s.inbound.list.map fun e => if e.state = .executing then f e else e } }

/-- Take the EXECUTING entry out of the list. -/
def State.removeExecuting (s : State) : State :=
  { s with inbound := { s.inbound with list := s.inbound.list.filter fun e => decide (e.state ≠ .executing) } }

/-- The reply of a loopback entry is presented back at once, and its answer, ACCEPT or STALE, removes the entry and
closes its record (R35, R32, R72); then what the end of the transaction brings about (R109, R127). DESIGN CHOICE (log entry
1): the removal and the closing come before the presentations of R127, which no rule orders, so that a next loopback entry
finds their room. -/
def State.loopbackReply (e : ListEntry) (st : WireStatus) (data : List Word) (s : State) : State :=
  (((matchResponse e.source e.tag e.issue st data s).2.removeExecuting).closeFilter e.source e.tag e.issue).followThrough

/-- Execution ends with a wire status and reply data (R30, R35, R37); a drain may have waited for an orphan (R109). -/
def State.endExecution (st : WireStatus) (data : List Word) (s : State) : State :=
  match s.executing with
  | none => s
  | some e =>
    let s := if st = .ok then s else s.addEvent (.rejected e st)
    if e.orphaned then s.removeExecuting.checkDrain
    else if e.source = s.membership.own then s.loopbackReply e st data
    else
      let s := s.updateExecuting fun e => { e with state := .replyReady, status := some st, data }
      { s with inbound := { s.inbound with replyOrder := s.inbound.replyOrder ++ [(e.source, e.tag)] } }

/-- A translation reaches the Inbound Engine: VALID, local address, rights, then the data cycle (R28 to R30). -/
def State.translated (m : MapEntry) (s : State) : State :=
  match s.executing with
  | none => s
  | some e =>
    if !m.valid then s.endExecution .noWindow []
    else
      let a := localAddress m e.offset
      let s := s.updateExecuting fun e => { e with localAddr := some a }
      match rightsFailure m e.source e.body with
      | some st => s.endExecution st []
      | none => s.portRequest .engine { kind := e.body.cycle, addr := a }

/-- A lookup: a hit becomes the most recent and hands over its copy, a miss starts a fill (R6, R7, R8). -/
def State.lookup (p : Page) (s : State) : State :=
  match s.map.cache.find? fun c => c.page == p with
  | some c =>
    ({ s with map := { s.map with cache := (s.map.cache.filter fun d => decide (d.page ≠ p)) ++ [c] } } : State).translated
      c.entry
  | none =>
    ({ s with map := { s.map with fill := some { page := p, void := false } } } : State).portRequest .engine
      (mapReadRequest s.membership.config.mapBase p)

/-- The oldest NEW entry becomes EXECUTING (R27). -/
def markOldest : List ListEntry → List ListEntry
  | [] => []
  | e :: es => if e.state = .fresh then { e with state := .executing } :: es else e :: markOldest es

/-- The boundary check fails (R28). -/
def ListEntry.crossesPage (e : ListEntry) : Bool := decide (Config.pageWords < e.offset.val + e.body.count)

/-- The engine starts the oldest NEW entry when none is EXECUTING (R27, R28). -/
def State.startExecution (s : State) : State :=
  match s.executing with
  | some _ => s
  | none =>
    let s : State := { s with inbound := { s.inbound with list := markOldest s.inbound.list } }
    match s.executing with
    | none => s
    | some e => if e.crossesPage then s.endExecution .boundary [] else s.lookup e.page

/-! ## Fills -/

/-- Install a copy: a full cache first evicts its least recent entry (R6, R9). -/
def installCopy (cache : List CacheEntry) (c : CacheEntry) : List CacheEntry :=
  (if Config.mapCacheCapacity ≤ cache.length then cache.tail else cache) ++ [c]

/-- The map read of the pending fill has ended (R9, R10, R11). -/
def State.fillEnded (r : ReadResult) (s : State) : State :=
  match s.map.fill with
  | none => s
  | some f =>
    if f.void then
      ({ s with map := { s.map with fill := some { f with void := false } } } : State).portRequest .engine
        (mapReadRequest s.membership.config.mapBase f.page)
    else if r.outcome = .ok then
      let m := mapEntryOf r.words
      ({ s with map :=
        { s.map with fill := none, cache := installCopy s.map.cache { page := f.page, entry := m } } } : State).translated m
    else ({ s with map := { s.map with fill := none } } : State).endExecution .mapError []

/-! ## Cycle ends -/

/-- What a cycle leaves in local memory, its outcome, and the words it read (R151, R152). A locked cycle is given here
from its read phase on, or from its write phase on once the word has been read (R153). From the read phase on the lock
keeps other masters out (R44, R155), every one of them being taken to honour it (log entry 21). -/
def Cycle.run (c : Cycle) (ts : List Transfer) (m : List Host.Cell) : ReadResult :=
  match c.request.kind with
  | .dataRead n => readTransfers n c.request.addr ts m
  | .maskedWrite items =>
    let r := writeTransfers items c.request.addr ts m
    { outcome := r.1, words := [], memory := r.2 }
  | .mapRead _ => readTransfers 2 c.request.addr ts m
  | .mapWrite _ e =>
    let r := writeTransfers (mapEntryWords e) c.request.addr ts m
    { outcome := r.1, words := [], memory := r.2 }
  | .locked op =>
    let write (old : Word) (ts : List Transfer) (m : List Host.Cell) : ReadResult :=
      match op.newValue old with
      | none => { outcome := .ok, words := [old], memory := m }
      | some v =>
        let r := writeTransfers [{ mask := Lanes.all, data := v }] c.request.addr (ts.map Transfer.locked) m
        { outcome := r.1, words := if r.1 = .ok then [old] else [], memory := r.2 }
    match c.old with
    | some old => write old ts m
    | none =>
      let r := readTransfers 1 c.request.addr ts m
      if r.outcome = .ok then write (r.words.headD 0#32) ts.tail r.memory else r

/-- The outcome of a data cycle reaches the Inbound Engine (R30, R44 to R46, R154). -/
def State.dataEnded (r : ReadResult) (s : State) : State :=
  if r.outcome = .ok then s.endExecution .ok r.words else s.endExecution .memoryError []

/-- A cycle whose discard mark is set has ended: nothing is handed over; an entry orphaned by CONFLICT whose data cycle
it was is removed with no event (R39, R156, R157), and a drain may have waited for it (R109). -/
def State.discardEnded (c : Cycle) (s : State) : State :=
  if c.discard = .byConflict ∧ c.request.kind.isData = true then s.removeExecuting.checkDrain else s

/-- The outcome of a cycle goes to its requester, or is discarded (R154, R156, R157). -/
def State.handOver (c : Cycle) (r : ReadResult) (toRequester : ReadResult → State → State) (s : State) : State :=
  let s := { s with memory := r.memory }
  (if c.discard = .clear then toRequester r s else s.discardEnded c).portNext

/-- The map write of an UPDATE has ended (R16). -/
def State.updateEnded (c : Cycle) (r : ReadResult) (s : State) : State :=
  match c.request.kind with
  | .mapWrite p _ =>
    if r.outcome = .ok then
      { s with map :=
        { cache := s.map.cache.filter fun d => decide (d.page ≠ p)
          fill := s.map.fill.map fun f => if f.page = p then { f with void := true } else f
          maint := { s.map.maint with state := .idle, lastError := false } } }
    else
      ({ s with map := { s.map with maint := { s.map.maint with state := .idle, lastError := true } } } : State).addEvent
        (.maintFailure c.request.addr r.outcome)
  | _ => s

/-- The map read of a maintenance READ has ended (R17). -/
def State.maintReadEnded (c : Cycle) (r : ReadResult) (s : State) : State :=
  if r.outcome = .ok then
    { s with map :=
      { s.map with maint := { s.map.maint with state := .idle, lastError := false, entry := mapEntryOf r.words } } }
  else
    ({ s with map := { s.map with maint := { s.map.maint with state := .idle, lastError := true } } } : State).addEvent
      (.maintFailure c.request.addr r.outcome)

end Sys2Proof.Machine
end

