-- ==== Sys2Proof/Machine/Reception.lean ====
section
/-! DEFINITION. The Link Unit's side of the medium (5.1, 5.7), the entry to CONFLICT (6.3), the ways to OFFLINE (6.2.1)
and the soft reset (R172). -/

namespace Sys2Proof.Machine

/-! ## The medium -/

/-- The Link Unit follows the medium: every link state but OFFLINE (R79). -/
def State.follows (s : State) : Bool := s.link.attached && s.membership.link != .offline

/-- Phases in which a frame of another station can be on the medium and be received: not before the first run of 11
recessive bits after JOIN (R79), and not while the own frame is. -/
def MediumPhase.receptive : MediumPhase → Bool
  | .sync _ | .own _ => false
  | _ => true

/-- Phases in which the medium is IDLE, or will be with no further happening of the table (R79). -/
def MediumPhase.quiet : MediumPhase → Bool
  | .idle | .ending _ | .recovering => true
  | _ => false

/-- The idle length so far: 0 unless the medium is IDLE (R79). -/
def LinkUnit.idleSoFar (u : LinkUnit) : Nat := if u.phase = .idle then u.idleLength else 0

/-- The medium is IDLE and has been for at least `n` BT, as the happening that says so shows (R79). -/
def LinkUnit.idleFor (u : LinkUnit) (n : Nat) : LinkUnit :=
  { u with phase := .idle, idleLength := max u.idleSoFar n, driving := none }

/-- The end of the CRC of a frame: slot and delimiter follow, nothing is driven yet, and the receive buffer is handed over
and free by the slot (R79, R92, R97). -/
def LinkUnit.afterCrc (u : LinkUnit) : LinkUnit :=
  { u with phase := .ending Config.slotAndDelimiter, idleLength := 0, receiveBuffer := .free, driving := none }

/-- The Link Unit detaches: it drives and receives nothing, its idle length is held at 0 (R79, R99). A code that is being
driven is cut off; where a LEAVE detaches while one that a soft reset found begun is still being driven, that is a DESIGN
CHOICE (log entry 27). -/
def LinkUnit.detach (u : LinkUnit) : LinkUnit :=
  { u with attached := false, phase := .idle, idleLength := 0, receiveBuffer := .free, driving := none, slotLeft := none }

/-- The addressee drives a code in the slot; NONE drives nothing (R92). -/
def State.drive (code : AckCode) (s : State) : State :=
  { s with link := { s.link with driving := if code = .nothing then none else some code } }

/-! ## CONFLICT -/

/-- Whether the entry of a slot carries the cancel mark. -/
def State.slotMarked (s : State) (k : SlotNo) : Bool :=
  s.outbound.table.toList.any fun o =>
    match o with
    | some e => e.origin == .slot k && e.cancel
    | none => false

/-- A slot at CONFLICT: an ISSUED slot becomes DONE, LINK-DOWN or, if its entry is marked, CANCELLED (R76, R147). -/
def Slot.atConflict (sl : Slot) (marked : Bool) : Slot :=
  match sl.state with
  | .fence _ => sl.finish .linkDown []
  | .entry => sl.finish (if marked then .cancelled else .linkDown) []
  | _ => sl

/-- The ENGINE cycle in progress is the data cycle of the EXECUTING entry (R39). -/
def MemoryPort.dataOnBus (p : MemoryPort) : Bool :=
  match p.current with
  | some c => c.requester == .engine && c.request.kind.isData && c.discard != .bySoftReset
  | none => false

/-- The port at CONFLICT: the ENGINE place is emptied, an ENGINE cycle in progress is marked (R156). -/
def MemoryPort.atConflict (p : MemoryPort) : MemoryPort :=
  { p with
    engine := none
    current := p.current.map fun c =>
      if c.requester = .engine ∧ c.discard = .clear then { c with discard := .byConflict } else c }

/-- The Inbound Unit at CONFLICT: only an EXECUTING entry whose data cycle is on the Local Bus stays, orphaned; every
filter record becomes EMPTY (R39). -/
def Inbound.atConflict (u : Inbound) (onBus : Bool) : Inbound :=
  { u with
    list := if onBus then (u.list.filter fun e => e.state == .executing).map fun e => { e with orphaned := true } else []
    replyOrder := []
    filter := emptyFilter }

/-- Every posted entry fails with LINK-DOWN, oldest first (R133). -/
def State.failAllPosted (s : State) : State :=
  s.aperture.posted.foldl (fun s e => s.failPosted e .linkDown) { s with aperture := { s.aperture with posted := [] } }

/-- The access that is held when the link becomes CONFLICT: a load ends by R129 and a store by R124, each with a bus error
and its record, and a fence read returns the count (R132, R133). -/
def State.endHeldAtConflict (s : State) : State :=
  match s.host.held with
  | some (.load _) => s.endLoad .linkDown []
  | some (.store st) => (s.releaseHost .busError).addEvent (.refusedAccess st.address .linkDown)
  | some .fence => s.completeFence
  | none => s

/-- The entry to CONFLICT (R111, R112); no other link state than these four enters it. The records stand in the order
of R161: STATION-CONFLICT, the posted entries in buffer order, the held load or store. -/
def State.enterConflict (s : State) : State :=
  match s.membership.link with
  | .offline | .conflict => s
  | _ =>
    let s := (s.setLink .conflict).addEvent (.bare .stationConflict)
    let s : State :=
      { s with
        membership := { s.membership with announcePending := false, leavePending := false }
        link := { s.link with driving := none }
        slots := #v[s.slots[0].atConflict (s.slotMarked 0), s.slots[1].atConflict (s.slotMarked 1),
          s.slots[2].atConflict (s.slotMarked 2), s.slots[3].atConflict (s.slotMarked 3)]
        outbound := { s.outbound with table := Vector.replicate 16 none, queued := [] }
        inbound := s.inbound.atConflict s.port.dataOnBus
        map := { s.map with fill := none }
        port := s.port.atConflict }
    s.failAllPosted.endHeldAtConflict

/-- A good frame is heard (R95, R96): with the own source it leads to the conflict check and nothing more. -/
def State.heard (source : Station) (f : State → State) (s : State) : State :=
  if s.follows && s.link.phase.receptive then
    let s : State := { s with link := s.link.afterCrc }
    if source = s.membership.own then s.enterConflict else f s
  else s

/-! ## OFFLINE -/

/-- OFFLINE is reached by leave (R107, R110). DESIGN CHOICE (log entry 27): a LEAVE taken in LISTENING, after SOFT-RESET and
JOIN, cuts off the code that the soft reset found begun, which R99 would drive to its third bit. -/
def State.offlineByLeave (s : State) : State :=
  let s := s.setLink .offline
  { s with
    membership :=
      { s.membership with announcePending := false, leavePending := false, roster := freshRoster s.membership.own }
    inbound := { s.inbound with filter := emptyFilter }
    link := s.link.detach }

/-- JOIN taken in OFFLINE (R103). DESIGN CHOICE (log entry 27): a code that a soft reset found begun is driven on to the
end of its third bit (R99) on the Link Unit that the JOIN has attached. -/
def State.joinLink (stn : Station) (rate : BitVec 2) (s : State) : State :=
  let s := s.setLink .listening
  { s with
    membership := { s.membership with own := stn, rate, roster := freshRoster stn }
    link := { s.link with attached := true, phase := .sync 0, idleLength := 0, spent := false }
    pins := { s.pins with stn, rate } }

/-- LEAVE, by link state (R107). -/
def State.leaveLink (s : State) : State :=
  match s.membership.link with
  | .offline | .draining => s
  | .listening | .announcing | .conflict => s.offlineByLeave
  | .online => (s.setLink .draining).checkDrain

/-! ## Soft reset -/

/-- The port at soft reset: both places are emptied, a cycle in progress is marked and runs on (R157). -/
def MemoryPort.atSoftReset (p : MemoryPort) : MemoryPort :=
  { current := p.current.map fun c => { c with discard := .bySoftReset }, maintenance := none, engine := none }

/-- The driving of a code has begun: bits of slot or delimiter have passed since the CRC (R99). -/
def MediumPhase.slotBegun : MediumPhase → Bool
  | .ending n => decide (n < Config.slotAndDelimiter)
  | _ => false

/-- The bits of the slot still to come, the one being driven counted (R92, R177). -/
def MediumPhase.slotRest : MediumPhase → Nat
  | .ending n => n - 1
  | _ => Config.slotBits

/-- The Link Unit at soft reset: detached, but that a code already begun is driven to its end (R99); one that an earlier
soft reset found begun goes on. -/
def LinkUnit.atSoftReset (u : LinkUnit) (begun : Bool) : LinkUnit :=
  let d := if begun || u.phase.slotBegun || u.slotLeft.isSome then u.driving else none
  { LinkUnit.initial with
    attached := d.isSome
    driving := d
    slotLeft := d.map fun _ => u.slotLeft.getD u.phase.slotRest }

/-- The Membership Unit at soft reset (R118). -/
def MembershipUnit.atSoftReset (u : MembershipUnit) : MembershipUnit :=
  { u with link := .offline, announcePending := false, leavePending := false, roster := freshRoster u.own }

/-- The soft reset (R172). -/
def State.softReset (begun : Bool) (s : State) : State :=
  { s with
    membership := s.membership.atSoftReset
    link := s.link.atSoftReset begun
    outbound := Outbound.initial
    inbound := Inbound.initial
    map := WindowMap.initial
    signals := []
    aperture := { Aperture.initial with map := s.aperture.map }
    slots := Vector.replicate 4 Slot.initial
    port := s.port.atSoftReset
    events := { records := [], overflow := false }
    interrupt := { s.interrupt with linkCause := false } }

end Sys2Proof.Machine
end

