-- ==== Sys2Proof/Machine/HostOps.lean ====
section
/-! DEFINITION. What host accesses do, register by register (chapters 1, 3, 6, 8, 10, 11) and in the aperture
(chapter 7). -/

namespace Sys2Proof.Machine

/-! ## Start Configuration (R2, R101) -/

/-- A field written as 0 keeps its former value (R101). -/
def keepIfZero {n : Nat} (new old : BitVec n) : BitVec n := if new = 0#n then old else new

/-- The limits register, taken in OFFLINE (R101, R175). -/
def State.setLimits (w : Word) (s : State) : State :=
  if s.membership.link = .offline then
    let c := s.membership.config
    { s with membership :=
      { s.membership with config :=
        { c with
          responseTimeout := keepIfZero (w.extractLsb' 0 8) c.responseTimeout
          attemptLimit := keepIfZero (w.extractLsb' 8 4) c.attemptLimit
          silentThreshold := keepIfZero (w.extractLsb' 12 3) c.silentThreshold } } }
  else s

/-- The map base register, taken in OFFLINE; a changed base empties the Map Cache (R2, R101). -/
def State.setMapBase (w : Word) (s : State) : State :=
  if s.membership.link = .offline then
    let b := w.extractLsb' 15 17
    let cache := if b = s.membership.config.mapBase then s.map.cache else []
    { s with
      membership := { s.membership with config := { s.membership.config with mapBase := b } }
      map := { s.map with cache } }
  else s

/-! ## CONTROL (R171) -/

/-- Inbound Enable takes the value written (R26, R171). -/
def State.setEnable (b : Bool) (s : State) : State := { s with inbound := { s.inbound with enable := b } }

/-- JOIN, or LEAVE if both were written outside OFFLINE (R103). -/
def State.joinOrLeave (stn : Station) (rate : BitVec 2) (leaveToo : Bool) (s : State) : State :=
  if s.membership.link = .offline then s.joinLink stn rate else if leaveToo then s.leaveLink else s

/-! ## Interrupt and queues -/

/-- Bit 6 of the interrupt status register written as 1 clears the LINK cause (R167, R175). -/
def State.clearLinkCause (w : Word) (s : State) : State :=
  if w.getLsbD 6 then { s with interrupt := { s.interrupt with linkCause := false } } else s

/-- The interrupt mask register (R168, R175). -/
def State.setEnables (w : Word) (s : State) : State :=
  { s with interrupt := { s.interrupt with enables := w.extractLsb' 0 7 } }

/-- POP of the Signal Queue; ignored when it is empty (R52). -/
def State.popSignal (s : State) : State := { s with signals := s.signals.tail }

/-- POP of the Event Queue (R164). -/
def State.popEvent (s : State) : State := { s with events := s.events.pop }

/-! ## Map maintenance (R14 to R18) -/

/-- The maintenance registers under a write (R14, R175, R176). -/
def Maintenance.write (m : Maintenance) (r : MaintRegister) (w : Word) : Maintenance :=
  match r with
  | .page => { m with page := Fin.ofNat 4096 w.toNat }
  | .entry0 => { m with entry := m.entry.withWord0 w }
  | .entry1 => { m with entry := m.entry.withWord1 w }

/-- A write of a maintenance register, taken in IDLE and ignored in BUSY (R14). -/
def State.writeMaint (r : MaintRegister) (w : Word) (s : State) : State :=
  if s.map.maint.state = .idle then { s with map := { s.map with maint := s.map.maint.write r w } } else s

/-- A refused maintenance command (R15). -/
def State.refuseMaint (s : State) : State := s.addEvent (.bare .maintRefused)

/-- UPDATE taken in IDLE (R16), refused in BUSY (R15). -/
def State.takeUpdate (s : State) : State :=
  if s.map.maint.state = .idle then
    ({ s with map := { s.map with maint := { s.map.maint with state := .busyUpdate } } } : State).portRequest .maintenance
      (mapWriteRequest s.membership.config.mapBase s.map.maint.page s.map.maint.entry)
  else s.refuseMaint

/-- READ taken in IDLE (R17), refused in BUSY (R15). -/
def State.takeRead (s : State) : State :=
  if s.map.maint.state = .idle then
    ({ s with map := { s.map with maint := { s.map.maint with state := .busyRead } } } : State).portRequest .maintenance
      (mapReadRequest s.membership.config.mapBase s.map.maint.page)
  else s.refuseMaint

/-- INVALIDATE-ALL taken in IDLE (R12, R18), refused in BUSY (R15). -/
def State.takeInvalidate (s : State) : State :=
  if s.map.maint.state = .idle then
    { s with map :=
      { cache := []
        fill := s.map.fill.map fun f => { f with void := true }
        maint := { s.map.maint with lastError := false } } }
  else s.refuseMaint

/-- A write of the maintenance command register: bits 1 to 0 decide (R15, R175). -/
def State.maintCommand (w : Word) (s : State) : State :=
  let c := w.extractLsb' 0 2
  if c = 1#2 then s.takeUpdate else if c = 2#2 then s.takeRead else if c = 3#2 then s.takeInvalidate else s.refuseMaint

/-! ## Command slots (chapter 8) -/

/-- ISSUED, in either phase (R137). -/
def SlotState.issued : SlotState → Bool
  | .fence _ | .entry => true
  | _ => false

/-- A slot's parameters and buffer under a write (R136, R138, R175). -/
def Slot.write (sl : Slot) (r : SlotRegister) (w : Word) : Slot :=
  match r with
  | .kind => { sl with kind := w.extractLsb' 0 4 }
  | .target => { sl with target := Fin.ofNat 16 w.toNat }
  | .page => { sl with page := w.extractLsb' 0 16 }
  | .offset => { sl with offset := w.extractLsb' 0 16 }
  | .count => { sl with count := w.extractLsb' 0 8 }
  | .operandA => { sl with operandA := w }
  | .operandB => { sl with operandB := w }
  | .buffer i => { sl with buffer := sl.buffer.set i w }

/-- A write of a slot parameter or buffer word, ignored in ISSUED (R138). -/
def State.writeSlot (k : SlotNo) (r : SlotRegister) (w : Word) (s : State) : State :=
  if s.slots[k].state.issued then s else s.setSlot k (s.slots[k].write r w)

/-- A refused slot command (R139). -/
def State.refuseSlot (k : SlotNo) (s : State) : State := s.addEvent (.ofSlot k)

/-- GO (R139, R140, R144): outputs cleared, parameters checked, link state checked, noted set taken; a slot with an
empty noted set is presented at once (R141). -/
def State.goSlot (k : SlotNo) (s : State) : State :=
  if s.slots[k].state.issued then s.refuseSlot k
  else
    let sl : Slot := { s.slots[k] with status := none, result := 0#32, cancelPending := false }
    match sl.transaction with
    | none => s.setSlot k (sl.finish .badCommand [])
    | some _ =>
      if s.membership.link = .online then
        (s.setSlot k { sl with state := .fence (s.notedFor sl.target) }).presentSlot k
      else s.setSlot k (sl.finish .linkDown [])

/-- RELEASE (R139, R144). -/
def State.releaseSlot (k : SlotNo) (s : State) : State :=
  if s.slots[k].state.issued then s.refuseSlot k
  else if s.slots[k].state = .done then s.setSlot k { s.slots[k] with state := .idle }
  else s

/-- The tag of a slot's entry. -/
def State.slotTag (s : State) (k : SlotNo) : Option Tag :=
  allTags.find? fun t =>
    match s.entryAt t with
    | some e => e.origin == .slot k
    | none => false

/-- A cancel reaches an entry (R74, R146). -/
def State.cancelEntry (k : SlotNo) (t : Tag) (s : State) : State :=
  match s.entryAt t with
  | none => s
  | some e =>
    match e.state with
    | .queued | .backoff _ => (s.endEntry t .cancelled []).followThrough
    | .onAir | .waiting _ =>
      (s.setEntry t { e with cancel := true }).setSlot k { s.slots[k] with cancelPending := true }

/-- CANCEL (R139, R145, R146). -/
def State.cancelSlot (k : SlotNo) (s : State) : State :=
  match s.slots[k].state with
  | .idle | .done => s
  | .fence _ => s.setSlot k (s.slots[k].finish .cancelled [])
  | .entry =>
    match s.slotTag k with
    | some t => s.cancelEntry k t
    | none => s

/-- A write of a slot command register (R139, R175). -/
def State.slotCommand (k : SlotNo) (w : Word) (s : State) : State :=
  if w = 1#32 then s.goSlot k
  else if w = 2#32 then s.releaseSlot k
  else if w = 3#32 then s.cancelSlot k
  else s.refuseSlot k

/-! ## Aperture Map (R120) -/

/-- The entry a word describes (R175). -/
def apertureEntryOf (w : Word) : ApertureEntry :=
  { valid := w.getLsbD 31, target := Fin.ofNat 16 (w.toNat / 65536), page := Fin.ofNat 4096 w.toNat }

/-- A write of an Aperture Map entry (R120). -/
def State.setApertureEntry (a : Fin 64) (w : Word) (s : State) : State :=
  { s with aperture := { s.aperture with map := s.aperture.map.set a (apertureEntryOf w) } }

/-! ## Aperture accesses (chapter 7) -/

/-- Why an access is refused, or the entry that translates it (R121). -/
def State.translateAccess (s : State) (a : BitVec 18) : Except Status ApertureEntry :=
  if s.membership.link ≠ .online then .error .linkDown
  else
    let e := s.aperture.map[aperturePage a]
    if e.valid then .ok e else .error .noTranslation

/-- A store to the aperture (R119, R121, R123). -/
def State.storeAccess (a : BitVec 18) (size : AccessSize) (data : Word) (s : State) : State :=
  match accessLanes size (apertureByte a) with
  | none => s.answerHost .busError
  | some l =>
    match s.translateAccess a with
    | .error st => (s.answerHost .busError).addEvent (.refusedAccess a st)
    | .ok e =>
      s.placeStore { target := e.target, page := e.page, offset := apertureWord a, word := maskedWord l data, address := a }

/-- A load from the aperture (R119, R121, R128). -/
def State.loadAccess (a : BitVec 18) (size : AccessSize) (s : State) : State :=
  match accessLanes size (apertureByte a) with
  | none => s.answerHost .busError
  | some l =>
    match s.translateAccess a with
    | .error st => (s.answerHost .busError).addEvent (.refusedAccess a st)
    | .ok e =>
      (s.holdHost (.load { target := e.target, page := e.page, offset := apertureWord a, lanes := l, address := a
                           noted := s.notedFor e.target, presented := false })).presentLoad

/-- A read of the fence register: it completes at once if the buffer is empty, and is else held (R132). -/
def State.readFence (s : State) : State :=
  if s.aperture.posted.isEmpty then s.completeFence else s.holdHost .fence

end Sys2Proof.Machine
end

