-- ==== Sys2Proof/Machine/Registers.lean ====
section
/-! DEFINITION. The register window (R169, R174, R175): what a read of each offset returns, and what a word write at
each offset does. -/

namespace Sys2Proof.Machine

/-! ## Reads -/

/-- Link status (R102, R175). -/
def State.linkStatus (s : State) : Word :=
  BitVec.ofNat 32
    (s.membership.link.code + 16 * s.membership.own.val + 256 * s.membership.rate.toNat +
      4096 * flag (s.membership.link != .offline) + 8192 * flag s.membership.leavePending)

/-- Limits (R101, R175). -/
def State.limits (s : State) : Word :=
  BitVec.ofNat 32
    (s.membership.config.responseTimeout.toNat + 256 * s.membership.config.attemptLimit.toNat +
      4096 * s.membership.config.silentThreshold.toNat)

/-- Inbound status: entries, an entry EXECUTING, an orphan present (R41, R175). -/
def State.inboundStatus (s : State) : Word :=
  BitVec.ofNat 32
    (s.inbound.list.length + 256 * flag (s.inbound.list.any fun e => e.state == .executing) +
      512 * flag (s.inbound.list.any ListEntry.orphaned))

/-- The allocated entries (R78). -/
def State.allocated (s : State) : Nat := s.outbound.table.toList.countP Option.isSome

/-- The entries in WAITING (R78). -/
def State.waitingEntries (s : State) : Nat :=
  s.outbound.table.toList.countP fun o =>
    match o with
    | some e => e.state.isWaiting
    | none => false

/-- Outbound status (R78, R175). -/
def State.outboundStatus (s : State) : Word := BitVec.ofNat 32 (s.allocated + 256 * s.waitingEntries)

/-- Aperture status (R135, R175). -/
def State.apertureStatus (s : State) : Word :=
  BitVec.ofNat 32 (s.aperture.posted.length + 256 * s.aperture.posted.countP PostedEntry.taken)

/-- Signal head status: valid flag and source (R51, R175). -/
def State.signalStatus (s : State) : Word :=
  match s.signals with
  | [] => 0#32
  | r :: _ => BitVec.ofNat 32 (1 + 16 * r.source.val)

/-- Signal head value (R51). -/
def State.signalValue (s : State) : Word :=
  match s.signals with
  | [] => 0#32
  | r :: _ => r.value

/-- The presence marks of a record, bits 8 to 14 of the event head status less 8 (R175). -/
def EventRecord.marks (r : EventRecord) : Nat :=
  flag r.station.isSome + 2 * flag r.tag.isSome + 4 * flag r.slot.isSome + 8 * flag r.page.isSome +
    16 * flag r.status.isSome +
    (match r.address with
     | none => 0
     | some (.local32 _) => 32
     | some (.aperture _) => 64)

/-- Event head status (R163, R175). -/
def State.eventStatus (s : State) : Word :=
  match s.events.records with
  | [] => 0#32
  | r :: _ =>
    BitVec.ofNat 32
      (r.kind.code + 256 * r.marks + 65536 * s.events.records.length + 16777216 * flag s.events.overflow)

/-- The fields of a record but the address; a field without its mark holds 0 (R159, R175). -/
def EventRecord.fields (r : EventRecord) : Nat :=
  (r.station.map Fin.val).getD 0 + 16 * (r.tag.map Fin.val).getD 0 + 256 * (r.slot.map Fin.val).getD 0 +
    1024 * (r.status.map Status.code).getD 0 + 65536 * (r.page.map Fin.val).getD 0

/-- Event head fields (R163, R175). -/
def State.eventFields (s : State) : Word :=
  match s.events.records with
  | [] => 0#32
  | r :: _ => BitVec.ofNat 32 r.fields

/-- Event head address: a local address, or an aperture offset with bits 31 to 18 as 0 (R162, R175). -/
def State.eventAddress (s : State) : Word :=
  match s.events.records with
  | [] => 0#32
  | r :: _ =>
    match r.address with
    | none => 0#32
    | some (.local32 a) => a
    | some (.aperture a) => a.setWidth 32

/-- Maintenance status (R14, R175). -/
def State.maintStatus (s : State) : Word :=
  BitVec.ofNat 32 (flag (s.map.maint.state != .idle) + 2 * flag s.map.maint.lastError)

/-- A Roster record (R114, R175). -/
def RosterRecord.word (r : RosterRecord) : Word := BitVec.ofNat 32 (r.state.code + 256 * r.count)

/-- An Aperture Map entry (R120, R175). -/
def ApertureEntry.word (e : ApertureEntry) : Word :=
  BitVec.ofNat 32 (2147483648 * flag e.valid + 65536 * e.target.val + e.page.val)

/-- Slot status (R137, R175). -/
def Slot.statusWord (sl : Slot) : Word :=
  BitVec.ofNat 32 (sl.state.code + 16 * flag sl.cancelPending + 256 * (sl.status.map Status.code).getD 0)

/-- The registers of a slot by slot offset (R174); the command register is write only and reads 0. -/
def Slot.read (sl : Slot) (offset : Nat) : Word :=
  if offset = 0x00 then sl.kind.setWidth 32
  else if offset = 0x04 then BitVec.ofNat 32 sl.target.val
  else if offset = 0x08 then sl.page.setWidth 32
  else if offset = 0x0C then sl.offset.setWidth 32
  else if offset = 0x10 then sl.count.setWidth 32
  else if offset = 0x14 then sl.operandA
  else if offset = 0x18 then sl.operandB
  else if offset = 0x20 then sl.statusWord
  else if offset = 0x24 then sl.result
  else if 0x40 ≤ offset then sl.buffer[Fin.ofNat 16 ((offset - 0x40) / 4)]
  else 0#32

/-- What a word read of an aligned offset of the register window returns (R169, R173, R174). The fence register's read
has a command of its own, and returns its count here as it stands. -/
def State.readRegister (s : State) (offset : BitVec 12) : Word :=
  let a := offset.toNat
  if a = 0x000 then Config.identification
  else if a = 0x004 then BitVec.ofNat 32 (256 * flag s.inbound.enable)
  else if a = 0x008 then s.linkStatus
  else if a = 0x00C then s.limits
  else if a = 0x010 then s.membership.config.mapBase ++ (0#15)
  else if a = 0x014 then s.causes.setWidth 32
  else if a = 0x018 then s.interrupt.enables.setWidth 32
  else if a = 0x01C then s.inboundStatus
  else if a = 0x020 then s.outboundStatus
  else if a = 0x024 then s.apertureStatus
  else if a = 0x028 then BitVec.ofNat 32 s.aperture.failures
  else if a = 0x02C then s.signalStatus
  else if a = 0x030 then s.signalValue
  else if a = 0x040 then s.eventStatus
  else if a = 0x044 then s.eventFields
  else if a = 0x048 then s.eventAddress
  else if a = 0x060 then BitVec.ofNat 32 s.map.maint.page.val
  else if a = 0x064 then mapWord0 s.map.maint.entry
  else if a = 0x068 then mapWord1 s.map.maint.entry
  else if a = 0x070 then s.maintStatus
  else if 0x080 ≤ a ∧ a < 0x0C0 then (s.membership.roster[Fin.ofNat 16 ((a - 0x080) / 4)]).word
  else if 0x100 ≤ a ∧ a < 0x200 then (s.aperture.map[Fin.ofNat 64 ((a - 0x100) / 4)]).word
  else if 0x200 ≤ a ∧ a < 0x400 then (s.slots[Fin.ofNat 4 ((a - 0x200) / 0x80)]).read (a % 0x80)
  else 0#32

/-- How a host read through CS-REG ends. -/
inductive WindowRead where
  | waits
  | busError
  | word (w : Word)
deriving DecidableEq, Repr

/-- A host word read through CS-REG: it waits on the host bus while the Host Port takes no access (R170, R178), ends with a
bus error at an offset that is not a multiple of 4, and else returns the register's word (R169). It changes nothing, so it
is no row of the table (log entry 20); the read that does, of the fence register, is one. -/
def State.hostRead (s : State) (offset : BitVec 12) : WindowRead :=
  if s.hostBlocked then .waits else if offset.toNat % 4 = 0 then .word (s.readRegister offset) else .busError

/-! ## Writes -/

/-- A CONTROL word (R171, R175): SOFT-RESET alone decides if it is there; else Inbound Enable is stored and JOIN and
LEAVE are taken. The STN and RATE pins are as last shown. A code being driven counts as begun. -/
def State.writeControl (w : Word) (s : State) : State :=
  if w.getLsbD 2 then s.softReset true
  else
    let s := s.setEnable (w.getLsbD 8)
    if w.getLsbD 0 then s.joinOrLeave s.pins.stn s.pins.rate (w.getLsbD 1)
    else if w.getLsbD 1 then s.leaveLink
    else s

/-- The parameter or buffer register at a slot offset (R174). -/
def slotRegisterAt (offset : Nat) : Option SlotRegister :=
  if offset = 0x00 then some .kind
  else if offset = 0x04 then some .target
  else if offset = 0x08 then some .page
  else if offset = 0x0C then some .offset
  else if offset = 0x10 then some .count
  else if offset = 0x14 then some .operandA
  else if offset = 0x18 then some .operandB
  else if 0x40 ≤ offset ∧ offset % 4 = 0 then some (.buffer (Fin.ofNat 16 ((offset - 0x40) / 4)))
  else none

/-- A write at a slot offset (R138, R139, R174). -/
def State.writeSlotRegister (k : SlotNo) (offset : Nat) (w : Word) (s : State) : State :=
  if offset = 0x1C then s.slotCommand k w
  else
    match slotRegisterAt offset with
    | some r => s.writeSlot k r w
    | none => s

/-- A word write at an aligned offset (R169, R174): read-only and unassigned offsets ignore it, and so does the fence
register (R132). A register that has a command of its own is written as that command writes it. -/
def State.writeRegister (offset : BitVec 12) (w : Word) (s : State) : State :=
  let a := offset.toNat
  if a = 0x004 then s.writeControl w
  else if a = 0x00C then s.setLimits w
  else if a = 0x010 then s.setMapBase w
  else if a = 0x014 then s.clearLinkCause w
  else if a = 0x018 then s.setEnables w
  else if a = 0x034 then s.popSignal
  else if a = 0x04C then s.popEvent
  else if a = 0x060 then s.writeMaint .page w
  else if a = 0x064 then s.writeMaint .entry0 w
  else if a = 0x068 then s.writeMaint .entry1 w
  else if a = 0x06C then s.maintCommand w
  else if 0x100 ≤ a ∧ a < 0x200 then s.setApertureEntry (Fin.ofNat 64 ((a - 0x100) / 4)) w
  else if 0x200 ≤ a ∧ a < 0x400 then s.writeSlotRegister (Fin.ofNat 4 ((a - 0x200) / 0x80)) (a % 0x80) w
  else s

end Sys2Proof.Machine
end

