-- ==== Sys2Proof/Machine/ApertureUnit.lean ====
section
/-! DEFINITION. Aperture and fence commands (chapter 7). -/

namespace Sys2Proof.Machine

/-- A read of the fence register (R132). -/
def execFenceRead (s : State) : Result := hostAccess .fenceRead s State.readFence

/-- A held fence read completes once the buffer is empty (R132). -/
def execFenceReadComplete (s : State) : Result :=
  running s fun s => if s.fenceDue then s.completeFence else s

/-- A store to the aperture (R119, R121, R123, R124). -/
def execApertureStore (offset : BitVec 18) (size : AccessSize) (data : Word) (s : State) : Result :=
  hostAccess (.apertureStore offset size data) s (State.storeAccess offset size data)

/-- A load from the aperture (R119, R121, R128). -/
def execApertureLoad (offset : BitVec 18) (size : AccessSize) (s : State) : Result :=
  hostAccess (.apertureLoad offset size) s (State.loadAccess offset size)

/-- A held store is placed or ended (R124). -/
def execHeldStorePlaced (s : State) : Result := running s State.endHeldStore

/-- The presentation of an eligible posted entry (R125). -/
def execPostedEntryPresented (place : Place) (s : State) : Result := running s (State.presentPlace place)

/-- The presentation of a held load (R128). -/
def execLoadPresented (s : State) : Result := running s State.presentLoad

end Sys2Proof.Machine
end

