-- ==== Sys2Proof/Machine/LinkOps.lean ====
section
/-! DEFINITION. The frames the station sends: what is offered (R90), how a frame starts (R91), and what becomes of it
(R87, R88, R93). -/

namespace Sys2Proof.Machine

/-! ## The frames offered -/

/-- A class 3 frame (R82). -/
def membershipFrame (own : Station) (body : FrameBody) : RawFrame :=
  { cls := 3, source := own, dest := 0, tag := 0, issue := false, length := 0, body }

/-- The RESPONSE of a reply entry (R31). -/
def replyFrame (own : Station) (e : ListEntry) : RawFrame :=
  { cls := 0, source := own, dest := e.source, tag := e.tag, issue := e.issue, length := Fin.ofNat 32 e.data.length
    body := .response ((e.status.getD .ok).code) e.data }

/-- The request frame of a transaction entry (R62). -/
def State.requestFrame (s : State) (t : Tag) (e : TransEntry) : RawFrame :=
  let frame (cls : Fin 4) (length : Nat) (body : FrameBody) : RawFrame :=
    { cls, source := s.membership.own, dest := e.target, tag := t, issue := e.issue, length := Fin.ofNat 32 length, body }
  match e.body with
  | .read p o n => frame 1 0 (.readReq p o (Fin.ofNat 32 n))
  | .write p o n => frame 1 (s.writeItems e.origin n).length (.writeReq p o (s.writeItems e.origin n))
  | .atomic p o op => frame 1 op.operands.length (.atomicReq p o op.code op.operands)
  | .signal v => frame 2 1 (.signal [v])
  | .probe => frame 2 0 .probe

/-- The entry at the head of the reply order (R31). -/
def State.headReply (s : State) : Option ListEntry :=
  match s.inbound.replyOrder with
  | [] => none
  | k :: _ => s.inbound.list.find? fun e => e.state == .replyReady && decide ((e.source, e.tag) = k)

/-- The entry at the head of the queued order, unless the spent mark holds it back (R62, R89). -/
def State.headRequest (s : State) : Option (Tag × TransEntry) :=
  match s.outbound.queued with
  | [] => none
  | t :: _ => if s.link.spent then none else (s.entryAt t).map fun e => (t, e)

/-- The pending ANNOUNCE or LEAVE (R90, R105, R109). -/
def State.pendingMembership (s : State) : Option Transmission :=
  if s.membership.announcePending then
    some { owner := .announce, frame := membershipFrame s.membership.own (.announce Config.protocolLevel) }
  else if s.membership.leavePending then
    some { owner := .leave, frame := membershipFrame s.membership.own .leave }
  else none

/-- The one frame offered, in the order of R90, within what the link state allows. -/
def State.offered (s : State) : Option Transmission :=
  match s.membership.link with
  | .online | .draining =>
    match s.headReply with
    | some e => some { owner := .reply e.source e.tag, frame := replyFrame s.membership.own e }
    | none =>
      match s.pendingMembership with
      | some tx => some tx
      | none => s.headRequest.map fun r => { owner := .transaction r.1, frame := s.requestFrame r.1 r.2 }
  | .announcing => s.pendingMembership
  | _ => none

/-! ## The owner's entry -/

/-- Change the reply entry of a source and tag that is in a given state. -/
def State.updateReply (i : Station) (t : Tag) (st : ListState) (f : ListEntry → ListEntry) (s : State) : State :=
  { s with inbound :=
    { s.inbound with
      list := s.inbound.list.map fun e => if e.source = i ∧ e.tag = t ∧ e.state = st then f e else e } }

/-- Set the state of a transaction entry. -/
def State.setTransState (t : Tag) (st : TransState) (s : State) : State :=
  match s.entryAt t with
  | some e => s.setEntry t { e with state := st }
  | none => s

/-- The owner's entry goes on the air and leaves its order (R31, R62, R91). -/
def State.goOnAir (o : TxOwner) (s : State) : State :=
  match o with
  | .reply i t =>
    let s := s.updateReply i t .replyReady fun e => { e with state := .replyOnAir }
    { s with inbound := { s.inbound with replyOrder := s.inbound.replyOrder.tail } }
  | .transaction t =>
    let s := s.setTransState t .onAir
    { s with outbound := { s.outbound with queued := s.outbound.queued.tail } }
  | .announce | .leave => s

/-- The Link Unit starts a frame, which passes through the receive buffer as well (R81, R91, R97). -/
def State.startFrame (tx : Transmission) (s : State) : State :=
  let s := s.goOnAir tx.owner
  { s with link := { s.link with phase := .own tx, idleLength := 0, receiveBuffer := .holds tx.frame, driving := none } }

/-- A transmit opportunity after the inter-frame gap (R81, R90). -/
def State.transmit (s : State) : State :=
  if s.follows && s.link.phase.quiet then
    let s : State := { s with link := s.link.idleFor Config.interFrameGap }
    match s.offered with
    | some tx => s.startFrame tx
    | none => s
  else s

/-- The own frame on the medium, if any. -/
def State.onAir (s : State) : Option Transmission :=
  match s.link.phase with
  | .own tx => some tx
  | _ => none

/-- The station becomes a listener for the rest of the frame (R86, R88). -/
def State.becomeListener (s : State) : State := { s with link := { s.link with phase := .frame, receiveBuffer := .filling } }

/-- An own frame that lost arbitration has not been attempted (R34, R63, R75, R87). -/
def State.handBack (o : TxOwner) (s : State) : State :=
  match o with
  | .reply i t =>
    let s := s.updateReply i t .replyOnAir fun e => { e with state := .replyReady }
    { s with inbound := { s.inbound with replyOrder := (i, t) :: s.inbound.replyOrder } }
  | .transaction t =>
    match s.entryAt t with
    | none => s
    | some e =>
      if e.cancel then (s.endEntry t .cancelled []).followThrough
      else
        let s := s.setEntry t { e with state := .queued }
        { s with outbound := { s.outbound with queued := t :: s.outbound.queued } }
  | .announce | .leave => s

/-- The reply entry on the air. -/
def State.replyOnAir (s : State) (i : Station) (t : Tag) : Option ListEntry :=
  s.inbound.list.find? fun e => decide (e.source = i) && decide (e.tag = t) && e.state == .replyOnAir

/-- A reply entry leaves the list and its record is closed (R32, R33); the drain may have waited for it (R109). -/
def State.removeReply (i : Station) (t : Tag) (s : State) : State :=
  match s.replyOnAir i t with
  | none => s
  | some e =>
    (({ s with inbound :=
      { s.inbound with
        list := s.inbound.list.filter fun f =>
          !(decide (f.source = i) && decide (f.tag = t) && f.state == .replyOnAir) } } : State).closeFilter i t
      e.issue).checkDrain

/-- A reply attempt has failed (R33): backoff, or the reply is given up at the attempt limit. -/
def State.failReply (i : Station) (t : Tag) (s : State) : State :=
  match s.replyOnAir i t with
  | none => s
  | some e =>
    let n := e.attempts + 1
    if n < s.membership.config.attemptLimit.toNat then
      s.updateReply i t .replyOnAir fun e => { e with state := .replyBackoff (s.backoffBt n), attempts := n }
    else (s.removeReply i t).addEvent (.tagged .replyUndelivered i t)

/-- An own frame aborted by readback (R88). -/
def State.abortFrame (o : TxOwner) (s : State) : State :=
  match o with
  | .reply i t => s.failReply i t
  | .transaction t => (s.afterAttempt t .nothing).followThrough
  | .announce | .leave => s

/-- A code other than NONE read in the slot means that the destination has been heard (R93, R115). -/
def State.hearAnswer (i : Station) (code : AckCode) (s : State) : State :=
  if code = .nothing then s else s.hear i

/-- After the slot of an own frame: the delimiter follows; a frame of class 1 or 2 sent whole sets the spent mark (R89). -/
def State.afterSlot (spends : Bool) (s : State) : State :=
  { s with link :=
    { s.link with phase := .ending 1, idleLength := 0, spent := s.link.spent || spends, receiveBuffer := .free } }

/-- The slot of an own request, SIGNAL or PROBE is read (R64, R93). -/
def State.requestAnswered (t : Tag) (dest : Station) (code : AckCode) (s : State) : State :=
  (((s.afterSlot true).hearAnswer dest code).afterAttempt t code).followThrough

/-- The slot of an own RESPONSE is read (R32, R33, R93). -/
def State.replyAnswered (i : Station) (t : Tag) (code : AckCode) (s : State) : State :=
  let s := (s.afterSlot false).hearAnswer i code
  match code with
  | .accept | .stale => s.removeReply i t
  | _ => s.failReply i t

/-- The delimiter of an own class 3 frame has ended (R79, R91). -/
def State.afterDelimiter (s : State) : State :=
  { s with link := { s.link with phase := .idle, idleLength := 0, receiveBuffer := .free } }

/-- The ANNOUNCE has gone out (R105). -/
def State.announced (s : State) : State :=
  let s := s.afterDelimiter
  if s.membership.link = .announcing then
    { s with membership := { s.membership with announcePending := false } }.setLink .online
  else s

/-- The LEAVE has gone out (R109, R110). -/
def State.left (s : State) : State :=
  if s.membership.link = .draining then s.offlineByLeave else s.afterDelimiter

/-! ## Intervals -/

/-- BACKOFF, with whatever remains. -/
def TransState.isBackoff : TransState → Bool
  | .backoff _ => true
  | _ => false

/-- A medium entry's backoff ends (R65). -/
def State.endBackoff (t : Tag) (s : State) : State :=
  match s.entryAt t with
  | some e =>
    if e.state.isBackoff ∧ e.target ≠ s.membership.own then
      let s := s.setEntry t { e with state := .queued }
      { s with outbound := { s.outbound with queued := s.outbound.queued ++ [t] } }
    else s
  | none => s

/-- A loopback entry's backoff ends (R71). -/
def State.endLoopbackBackoff (t : Tag) (s : State) : State :=
  match s.entryAt t with
  | some e => if e.state.isBackoff ∧ e.target = s.membership.own then (s.presentLoopback t).followThrough else s
  | none => s

/-- REPLY-BACKOFF, with whatever remains. -/
def ListState.isBackoff : ListState → Bool
  | .replyBackoff _ => true
  | _ => false

/-- A reply's backoff ends (R33). -/
def State.endReplyBackoff (i : Station) (t : Tag) (s : State) : State :=
  match s.inbound.list.find? fun e => decide (e.source = i) && decide (e.tag = t) && e.state.isBackoff with
  | some e =>
    let s := s.updateReply i t e.state fun e => { e with state := .replyReady }
    { s with inbound := { s.inbound with replyOrder := s.inbound.replyOrder ++ [(i, t)] } }
  | none => s

/-- A response timer runs out (R67, R75). -/
def State.timeOut (t : Tag) (s : State) : State :=
  match s.entryAt t with
  | some e => if e.state.isWaiting then (s.endEntry t .timeout []).followThrough else s
  | none => s

/-- The round gap has passed (R89). -/
def State.endRound (s : State) : State :=
  if s.follows && s.link.phase.quiet then
    { s with link := { s.link.idleFor Config.roundGap with spent := false } }
  else s

/-- The join listen has passed (R104). -/
def State.endListen (s : State) : State :=
  if s.membership.link = .listening ∧ s.link.phase.quiet = true then
    let s := s.setLink .announcing
    { s with
      membership := { s.membership with announcePending := true }
      link := s.link.idleFor Config.joinListen }
  else s

/-- The run of 11 recessive bits after the JOIN (R79); a code that a soft reset found begun has ended before it (R99). -/
def State.endSync (s : State) : State :=
  match s.link.phase with
  | .sync _ =>
    { s with link := { s.link with phase := .idle, idleLength := Config.interFrameGap, driving := none, slotLeft := none } }
  | _ => s

/-- A stray dominant bit (R79): before the first run it breaks the run; after it the idle count starts again. DESIGN CHOICE
(log entry 8): the row says that the medium was idle for less than 11 BT, whatever length the state holds. -/
def State.strayBit (s : State) : State :=
  match s.link.phase with
  | .sync _ => { s with link := { s.link with phase := .sync 0 } }
  | _ =>
    if s.follows && s.link.phase.quiet then
      { s with link := { s.link with phase := .recovering, idleLength := 0, driving := none } }
    else s

/-- Another station's start marker (R79, R81, R104). DESIGN CHOICE (log entry 8): the row says that the medium was idle for
11 BT or more, whatever length the state holds. -/
def State.startSeen (s : State) : State :=
  if s.follows && s.link.phase.quiet then
    { s with link := { s.link with phase := .frame, idleLength := 0, receiveBuffer := .filling, driving := none } }
  else s

/-- The medium after a bad frame (R79, R80, R84): idle is counted from the last dominant bit seen, `recessive` bits ago. -/
def LinkUnit.giveUpFrame (u : LinkUnit) (recessive : Nat) : LinkUnit :=
  { u with
    phase := if recessive = 0 then .recovering else .idle
    idleLength := recessive
    receiveBuffer := .free
    driving := none }

/-- A bad frame: given up, nothing handed on, nothing driven (R84). -/
def State.dropFrame (recessive : Nat) (s : State) : State :=
  if s.follows && s.link.phase.receptive then { s with link := s.link.giveUpFrame recessive } else s

/-- The slot that a soft reset found begun has been driven to its end, and the Link Unit detaches (R99). DESIGN CHOICE
(log entry 27): after a JOIN it stays attached (R103), and only the driving ends. -/
def State.endSlotAfterReset (s : State) : State :=
  match s.link.slotLeft with
  | none => s
  | some _ =>
    if s.membership.link = .offline then { s with link := s.link.detach }
    else { s with link := { s.link with driving := none, slotLeft := none } }

end Sys2Proof.Machine
end

