-- ==== Sys2Proof/Machine/Clock.lean ====
section
/-! DEFINITION. What the part does of itself while no command waits (log entry 6): the happenings that are due, and
else one bit time of its clock. -/

namespace Sys2Proof.Machine

/-! ## One bit time -/

/-- The medium after one more bit time with no happening on it (R79): idle is counted, the slot and the delimiter pass.
DESIGN CHOICE (log entry 27): after a SOFT-RESET and a JOIN the bit time is one recessive bit of the run of 11 although the
station itself still drives the code that the soft reset found begun. -/
def LinkUnit.tick (u : LinkUnit) : LinkUnit :=
  match u.phase with
  | .idle => { u with idleLength := u.idleLength + 1 }
  | .recovering => { u with phase := .idle, idleLength := 1 }
  | .sync run => { u with phase := .sync (run + 1) }
  | .ending n =>
    if n ≤ 1 then { u with phase := .idle, idleLength := 0, driving := none }
    else { u with phase := .ending (n - 1), driving := if n = 2 then none else u.driving }
  | .frame | .own _ => u

/-- A code that a soft reset found begun is driven on, whatever the link state (R99), and after a JOIN beside the run of
`LinkUnit.tick` (log entry 27). -/
def LinkUnit.tickSlot (u : LinkUnit) : LinkUnit := { u with slotLeft := u.slotLeft.map fun n => n - 1 }

/-- A backoff interval runs in BT (R100), the response timer in ns (R67). -/
def TransState.tick (ns : Nat) : TransState → TransState
  | .backoff left => .backoff (left - 1)
  | .waiting left => .waiting (left - ns)
  | st => st

/-- A reply's backoff interval runs in BT (R100). -/
def ListState.tick : ListState → ListState
  | .replyBackoff left => .replyBackoff (left - 1)
  | st => st

/-- One bit time passes at the link rate in use (R65, R67, R79, R100); the start-up of the Host Port runs in CLK periods
of 25 ns (R178). While RESET is low nothing runs. -/
def State.tick (s : State) : State :=
  if s.pins.resetLow then s
  else
    let ns := Config.bitTimeNs s.membership.rate
    { s with
      link := (if s.follows then s.link.tick else s.link).tickSlot
      outbound :=
        { s.outbound with table := s.outbound.table.map fun o => o.map fun e => { e with state := e.state.tick ns } }
      inbound := { s.inbound with list := s.inbound.list.map fun e => { e with state := e.state.tick } }
      host := { s.host with startup := s.host.startup.map fun n => n - ns / 25 } }

/-! ## What is due -/

/-- A follow-on of the present state, if any, those of a removal from the Posted Write Buffer in the order of R127
(R125, R124, R128, R130, R132, R109), then the start of an execution (R27) and the end of a slot (R99). The removal itself
carries out its own (`State.followThrough`), so in a run none of those of R127 is left over. -/
def State.followOn (s : State) : Option Instr :=
  match s.aperture.posted.find? s.eligible with
  | some e => some (.postedEntryPresented e.place)
  | none =>
    if s.storeDue then some .heldStorePlaced
    else if s.loadDue then some .loadPresented
    else
      match s.slotDue with
      | some k => some (.slotPresented k)
      | none =>
        if s.fenceDue then some .fenceReadComplete
        else if s.executing.isNone ∧ (s.inbound.list.any fun e => e.state == .fresh) = true then some .executionStart
        else if s.membership.link = .draining ∧ s.drained = true ∧ s.membership.leavePending = false then
          some .drainComplete
        else if s.link.slotLeft = some 0 then some .acknowledgeSlotCompleted
        else none

/-- An entry whose interval or timer has run out (R65, R67, R71). -/
def State.elapsedEntry (s : State) : Option Instr :=
  (allTags.findSome? fun t =>
    (s.entryAt t).bind fun e =>
      match e.state with
      | .backoff 0 => some (if e.target = s.membership.own then .loopbackBackoffElapsed t else .backoffElapsed t)
      | .waiting 0 => some (.responseTimeout t)
      | _ => none)

/-- A reply whose interval has run out (R33). -/
def State.elapsedReply (s : State) : Option Instr :=
  (s.inbound.list.find? fun e => e.state == .replyBackoff 0).map fun e => .replyBackoffElapsed e.source e.tag

/-- A length of the medium's idle, or of the run after JOIN, that has been reached (R79, R81, R89, R104). -/
def State.elapsedIdle (s : State) : Option Instr :=
  match s.link.phase with
  | .sync run => if Config.interFrameGap ≤ run then some .mediumSyncRun else none
  | .idle =>
    if s.link.spent = true ∧ Config.roundGap ≤ s.link.idleLength then some .roundGapElapsed
    else if s.membership.link = .listening ∧ Config.joinListen ≤ s.link.idleLength then some .joinListenComplete
    else if Config.interFrameGap ≤ s.link.idleLength ∧ s.offered.isSome = true then some .transmitOpportunity
    else none
  | _ => none

/-- The happening that is due, if any; none while RESET is low (R178). -/
def State.due (s : State) : Option Instr :=
  if s.pins.resetLow then none
  else
    (s.followOn <|> s.elapsedEntry) <|> (s.elapsedReply <|> s.elapsedIdle) <|>
      (if s.host.startup = some 0 then some .hostPortReady else none)

/-- The access on the host bus that is taken next: the first that waits, once none is held and the Host Port answers
(R170, R178). It comes with the state in which it is taken and those that wait behind it. -/
def State.nextAccess (s : State) : Option (Instr × List Instr) :=
  match s.host.waiting with
  | [] => none
  | c :: rest => if s.pins.resetLow ∨ s.host.startup.isSome ∨ s.host.held.isSome then none else some (c, rest)

/-- The accesses that wait on the host bus, set. -/
def State.withWaiting (ws : List Instr) (s : State) : State := { s with host := { s.host with waiting := ws } }

/-- The accesses that still wait stand behind those the step left waiting. -/
def putBack (rest : List Instr) : Result → Result
  | .next s => .next (s.withWaiting (s.host.waiting ++ rest))
  | o => o

/-- One step with no command in the queue (log entry 6): a happening that is due, else the access that waits first on
the host bus, else one bit time. `run` gives a command its effect. -/
def State.idleStep (run : Instr → State → Result) (s : State) : Result :=
  match s.due with
  | some c => run c s
  | none =>
    match s.nextAccess with
    | some (c, rest) => putBack rest (run c (s.withWaiting []))
    | none => .next s.tick

end Sys2Proof.Machine
end

