-- ==== Sys2Proof/Machine/Control.lean ====
section
/-! DEFINITION. CONTROL, Start Configuration, interrupt, queue pop and general register window commands. -/

namespace Sys2Proof.Machine

/-- JOIN (R103, R171): Inbound Enable takes the value written in the same happening. -/
def execJoin (stn : Station) (rate : BitVec 2) (leaveToo enable : Bool) (s : State) : Result :=
  hostWrite (.join stn rate leaveToo enable) s fun s => (s.setEnable enable).joinOrLeave stn rate leaveToo

/-- LEAVE (R107, R171). -/
def execLeave (enable : Bool) (s : State) : Result :=
  hostWrite (.leave enable) s fun s => (s.setEnable enable).leaveLink

/-- SOFT-RESET (R172). -/
def execSoftReset (slotBegun : Bool) (s : State) : Result :=
  hostWrite (.softReset slotBegun) s (State.softReset slotBegun)

/-- A CONTROL write without a function bit (R26, R171). -/
def execInboundEnableWrite (enable : Bool) (s : State) : Result :=
  hostWrite (.inboundEnableWrite enable) s (State.setEnable enable)

/-- The limits register (R101). -/
def execLimitsWrite (value : Word) (s : State) : Result :=
  hostWrite (.limitsWrite value) s (State.setLimits value)

/-- The map base register (R2, R101). -/
def execMapBaseWrite (value : Word) (s : State) : Result :=
  hostWrite (.mapBaseWrite value) s (State.setMapBase value)

/-- The interrupt status register (R167). -/
def execLinkCauseClear (value : Word) (s : State) : Result :=
  hostWrite (.linkCauseClear value) s (State.clearLinkCause value)

/-- The interrupt mask register (R168). -/
def execInterruptMaskWrite (value : Word) (s : State) : Result :=
  hostWrite (.interruptMaskWrite value) s (State.setEnables value)

/-- The signal pop register (R52). -/
def execSignalPop (value : Word) (s : State) : Result :=
  hostWrite (.signalPop value) s State.popSignal

/-- The event pop register (R164). -/
def execEventPop (value : Word) (s : State) : Result :=
  hostWrite (.eventPop value) s State.popEvent

/-- A word write at an offset of the register window; a misaligned one ends with a bus error (R169). -/
def execRegisterWrite (offset : BitVec 12) (value : Word) (s : State) : Result :=
  hostAccess (.registerWrite offset value) s fun s =>
    if offset.toNat % 4 = 0 then (s.answerHost .done).writeRegister offset value else s.answerHost .busError

/-- A byte, halfword or misaligned access through CS-REG ends with a bus error and changes nothing (R169). -/
def execRegisterAccessInvalid (write : Bool) (size : AccessSize) (offset : BitVec 12) (s : State) : Result :=
  hostAccess (.registerAccessInvalid write size offset) s (State.answerHost .busError)

end Sys2Proof.Machine
end

