-- ==== Sys2Proof/Machine/Engine.lean ====
section
/-! DEFINITION. Commands of the Inbound Engine and the Memory Port: the start of an execution and the ends of Local Bus
cycles. A cycle end whose cycle is not the one in progress changes nothing (log entry 5). -/

namespace Sys2Proof.Machine

/-- The Inbound Engine starts the oldest NEW entry (R27). -/
def execExecutionStart (s : State) : Result := running s State.startExecution

/-- The cycle in progress ends, if it is one of those meant. -/
def State.endCycle (meant : Cycle → Bool) (ts : List Transfer) (toRequester : Cycle → ReadResult → State → State)
    (s : State) : State :=
  match s.port.current with
  | some c => if meant c then s.handOver c (c.run ts s.memory) (toRequester c) else s
  | none => s

/-- The map read of a fill (R149). -/
def Cycle.isFill (c : Cycle) : Bool :=
  c.requester == .engine && c.discard == .clear &&
    match c.request.kind with
    | .mapRead _ => true
    | _ => false

/-- A data read or masked write of the engine (R149). -/
def Cycle.isPlainData (c : Cycle) : Bool :=
  c.requester == .engine && c.discard == .clear &&
    match c.request.kind with
    | .dataRead _ | .maskedWrite _ => true
    | _ => false

/-- The map write of an UPDATE (R149). -/
def Cycle.isUpdate (c : Cycle) : Bool :=
  c.requester == .maintenance && c.discard == .clear &&
    match c.request.kind with
    | .mapWrite _ _ => true
    | _ => false

/-- The map read of a maintenance READ (R149). -/
def Cycle.isMaintRead (c : Cycle) : Bool :=
  c.requester == .maintenance && c.discard == .clear &&
    match c.request.kind with
    | .mapRead _ => true
    | _ => false

/-- The map read of the pending fill ends (R9 to R11). -/
def execMapFillEnd (transfers : List Transfer) (s : State) : Result :=
  running s (State.endCycle Cycle.isFill transfers fun _ => State.fillEnded)

/-- An inbound data read or masked write ends (R30). -/
def execDataCycleEnd (transfers : List Transfer) (s : State) : Result :=
  running s (State.endCycle Cycle.isPlainData transfers fun _ => State.dataEnded)

/-- The read phase of a locked cycle ends (R43, R45, R153). -/
def State.endReadPhase (c : Cycle) (op : AtomicOp) (t : Transfer) (s : State) : State :=
  let r := readTransfers 1 c.request.addr [t] s.memory
  let old := r.words.headD 0#32
  if r.outcome = .ok ∧ (op.newValue old).isSome = true then
    { s with memory := r.memory, port := { s.port with current := some { c with old := some old } } }
  else s.handOver c r State.dataEnded

/-- The read phase of a locked cycle ends, whether or not the cycle is marked (R45, R47, R153). -/
def execLockedReadPhaseEnd (transfer : Transfer) (s : State) : Result :=
  running s fun s =>
    match s.port.current with
    | some c =>
      match c.request.kind, c.old with
      | .locked op, none => s.endReadPhase c op transfer
      | _, _ => s
    | none => s

/-- A locked cycle in its write phase (R153). -/
def Cycle.inWritePhase (c : Cycle) : Bool :=
  c.old.isSome &&
    match c.request.kind with
    | .locked _ => true
    | _ => false

/-- The write phase of a locked cycle ends, whether or not the cycle is marked (R46, R47, R153). -/
def execLockedWritePhaseEnd (transfer : Transfer) (s : State) : Result :=
  running s (State.endCycle Cycle.inWritePhase [transfer] fun _ => State.dataEnded)

/-- The map write of an UPDATE ends (R16). -/
def execMapWriteEnd (transfers : List Transfer) (s : State) : Result :=
  running s (State.endCycle Cycle.isUpdate transfers State.updateEnded)

/-- The map read of a maintenance READ ends (R17). -/
def execMaintMapReadEnd (transfers : List Transfer) (s : State) : Result :=
  running s (State.endCycle Cycle.isMaintRead transfers State.maintReadEnded)

/-- A cycle whose discard mark is set ends (R156, R157). -/
def execDiscardedCycleEnd (transfers : List Transfer) (s : State) : Result :=
  running s (State.endCycle (fun c => c.discard != .clear) transfers fun _ _ s => s)

end Sys2Proof.Machine
end

