-- ==== Sys2Proof/Machine/Frames.lean ====
section
/-! DEFINITION. Frames heard (5.7): the commands that stand for a frame received from another station, taken at the end
of its CRC. -/

namespace Sys2Proof.Machine

/-- A bad frame (R84), `recessive` bits after its last dominant one (R79, R80). -/
def execBadFrame (s : State) (recessive : Nat := 0) : Result := running s (State.dropFrame recessive)

/-- A malformed frame: its source is heard, and it draws no slot (R85, R96). -/
def execMalformedFrame (frame : RawFrame) (s : State) : Result :=
  running s (State.heard frame.source fun s => s.hear frame.source)

/-- A good frame that is heard and nothing more (R96). -/
def execFrameHeard (source : Station) (s : State) : Result :=
  running s (State.heard source fun s => s.hear source)

/-- A good heard frame with the own source (R95, R111). -/
def execOwnSourceFrameHeard (s : State) : Result :=
  running s fun s => s.heard s.membership.own id

/-- A request or SIGNAL for the accept decision: its source is heard, then, in ONLINE and DRAINING, the decision is taken
and its code driven (R22, R92, R96). -/
def State.decideOffer (i : Station) (t : Tag) (issue : Bool) (o : Offer) (s : State) : State :=
  let s := s.hear i
  if s.takesPart then
    let r := acceptDecision i t issue o s
    r.2.drive r.1
  else s

/-- A READ-REQ (R22); one whose count is out of range is malformed (R85). -/
def execReadReq (source : Station) (tag : Tag) (issue : Bool) (page : Page) (offset : Offset) (count : Nat) (s : State) :
    Result :=
  running s (State.heard source fun s =>
    if 1 ≤ count ∧ count ≤ 16 then s.decideOffer source tag issue (.request page offset (.read count)) else s.hear source)

/-- A WRITE-REQ (R22); one whose length is out of range is malformed (R85). -/
def execWriteReq (source : Station) (tag : Tag) (issue : Bool) (page : Page) (offset : Offset) (items : List MaskedWord)
    (s : State) : Result :=
  running s (State.heard source fun s =>
    if 1 ≤ items.length ∧ items.length ≤ 16 then s.decideOffer source tag issue (.request page offset (.write items))
    else s.hear source)

/-- An ATOMIC-REQ (R42). -/
def execAtomicReq (source : Station) (tag : Tag) (issue : Bool) (page : Page) (offset : Offset) (op : AtomicOp)
    (s : State) : Result :=
  running s (State.heard source (State.decideOffer source tag issue (.request page offset (.atomic op))))

/-- A SIGNAL (R48). -/
def execSignal (source : Station) (tag : Tag) (issue : Bool) (value : Word) (s : State) : Result :=
  running s (State.heard source (State.decideOffer source tag issue (.signal value)))

/-- A PROBE: ACCEPT in ONLINE and DRAINING, with no accept decision (R55); its tag and issue bit are not used. -/
def execProbe (source : Station) (_tag : Tag) (_issue : Bool) (s : State) : Result :=
  running s (State.heard source fun s =>
    let s := s.hear source
    if s.takesPart then s.drive .accept else s)

/-- A RESPONSE for the Outbound Unit: its source is heard, then, in ONLINE and DRAINING, it is matched and the code
driven (R68, R92); then what the end of the transaction brings about (R109, R127). -/
def State.answer (i : Station) (t : Tag) (issue : Bool) (st : WireStatus) (data : List Word) (s : State) : State :=
  let s := s.hear i
  if s.takesPart then
    let r := matchResponse i t issue st data s
    (r.2.drive r.1).followThrough
  else s

/-- A RESPONSE (R68); one of more than 16 words is malformed (R85). -/
def execResponse (source : Station) (tag : Tag) (issue : Bool) (status : WireStatus) (data : List Word) (s : State) :
    Result :=
  running s (State.heard source fun s =>
    if data.length ≤ 16 then s.answer source tag issue status data else s.hear source)

/-- A well-formed ANNOUNCE: its source is heard and purged (R36, R115), which may complete the drain (R109). -/
def execAnnounce (source : Station) (s : State) : Result :=
  running s (State.heard source fun s => ((s.hear source).purge source).checkDrain)

/-- A well-formed LEAVE: its source has departed and is purged (R36, R116), which may complete the drain (R109). -/
def execLeaveFrame (source : Station) (s : State) : Result :=
  running s (State.heard source fun s => ((s.hearLeave source).purge source).checkDrain)

end Sys2Proof.Machine
end

