-- ==== Sys2Proof/Machine/Link.lean ====
section
/-! DEFINITION. Commands of the Link Unit, the Membership Unit's drain, and the intervals counted on the Link. -/

namespace Sys2Proof.Machine

/-- The drain is complete and the LEAVE frame becomes pending (R109). -/
def execDrainComplete (s : State) : Result := running s State.checkDrain

/-- A transmit opportunity (R90). -/
def execTransmitOpportunity (s : State) : Result := running s State.transmit

/-- The own frame loses arbitration (R86, R87); the station listens to the rest of the winner's frame. -/
def execArbitrationLost (s : State) : Result :=
  running s fun s =>
    match s.onAir with
    | some tx => s.becomeListener.handBack tx.owner
    | none => s

/-- A readback mismatch aborts the own frame (R88). -/
def execReadbackAbort (s : State) : Result :=
  running s fun s =>
    match s.onAir with
    | some tx => s.becomeListener.abortFrame tx.owner
    | none => s

/-- The acknowledge slot of the own request, SIGNAL or PROBE (R64, R93). -/
def execRequestAcknowledge (bits : BitVec 3) (s : State) : Result :=
  running s fun s =>
    match s.onAir with
    | some { owner := .transaction t, frame := f } => s.requestAnswered t f.dest (slotCode bits)
    | _ => s

/-- The acknowledge slot of the own RESPONSE (R32, R93). -/
def execReplyAcknowledge (bits : BitVec 3) (s : State) : Result :=
  running s fun s =>
    match s.onAir with
    | some { owner := .reply i t, frame := _ } => s.replyAnswered i t (slotCode bits)
    | _ => s

/-- The own ANNOUNCE transmitted whole (R105). -/
def execAnnounceTransmitted (s : State) : Result :=
  running s fun s =>
    match s.onAir with
    | some { owner := .announce, frame := _ } => s.announced
    | _ => s

/-- The own LEAVE transmitted whole (R109). -/
def execLeaveTransmitted (s : State) : Result :=
  running s fun s =>
    match s.onAir with
    | some { owner := .leave, frame := _ } => s.left
    | _ => s

/-- A medium entry's backoff ends (R65). -/
def execBackoffElapsed (tag : Tag) (s : State) : Result := running s (State.endBackoff tag)

/-- A loopback entry's backoff ends (R71). -/
def execLoopbackBackoffElapsed (tag : Tag) (s : State) : Result := running s (State.endLoopbackBackoff tag)

/-- A reply's backoff ends (R33). -/
def execReplyBackoffElapsed (source : Station) (tag : Tag) (s : State) : Result :=
  running s (State.endReplyBackoff source tag)

/-- A response timer runs out (R67). -/
def execResponseTimeout (tag : Tag) (s : State) : Result := running s (State.timeOut tag)

/-- The round gap has passed (R89). -/
def execRoundGapElapsed (s : State) : Result := running s State.endRound

/-- The join listen has passed (R104). -/
def execJoinListenComplete (s : State) : Result := running s State.endListen

/-- A run of 11 recessive bits after the JOIN (R79). -/
def execMediumSyncRun (s : State) : Result := running s State.endSync

/-- A stray dominant bit (R79). -/
def execStrayDominantBit (s : State) : Result := running s State.strayBit

/-- Another station's start marker (R79). -/
def execStartMarker (s : State) : Result := running s State.startSeen

/-- The end of a slot that a soft reset found begun (R99). -/
def execAcknowledgeSlotCompleted (s : State) : Result := running s State.endSlotAfterReset

end Sys2Proof.Machine
end

