-- ==== Sys2Proof/Machine/Maintenance.lean ====
section
/-! DEFINITION. Map maintenance commands (1.4). -/

namespace Sys2Proof.Machine

/-- A maintenance page or entry register (R14). -/
def execMaintRegisterWrite (register : MaintRegister) (value : Word) (s : State) : Result :=
  hostWrite (.maintRegisterWrite register value) s (State.writeMaint register value)

/-- UPDATE (R15, R16). -/
def execUpdate (s : State) : Result := hostWrite .update s State.takeUpdate

/-- READ (R15, R17). -/
def execRead (s : State) : Result := hostWrite .read s State.takeRead

/-- INVALIDATE-ALL (R15, R18). -/
def execInvalidateAll (s : State) : Result := hostWrite .invalidateAll s State.takeInvalidate

/-- A maintenance command that names no operation (R15). -/
def execMaintCommandUndefined (value : Word) (s : State) : Result :=
  hostWrite (.maintCommandUndefined value) s State.refuseMaint

end Sys2Proof.Machine
end

