-- ==== Sys2Proof/Machine/ResetPin.lean ====
section
/-! DEFINITION. The RESET pin (R158, R178). -/

namespace Sys2Proof.Machine

/-- What a cycle given up in its midst leaves in local memory (R158): a write may have written any of its words;
a locked cycle before its write phase has written nothing. -/
def Cycle.giveUp (c : Cycle) (landed : List Bool) (m : List Host.Cell) : List Host.Cell :=
  match c.request.kind with
  | .maskedWrite items => writeLanded items c.request.addr landed m
  | .mapWrite _ e => writeLanded (mapEntryWords e) c.request.addr landed m
  | .locked op =>
    match c.old.bind op.newValue with
    | some v => writeLanded [{ mask := Lanes.all, data := v }] c.request.addr landed m
    | none => m
  | .dataRead _ | .mapRead _ => m

/-- A frame being transmitted and a slot being driven are cut off (R178). -/
def LinkUnit.cutOff (u : LinkUnit) : LinkUnit :=
  { u with
    phase :=
      match u.phase with
      | .own _ => .recovering
      | p => p
    receiveBuffer :=
      match u.phase with
      | .own _ => .free
      | _ => u.receiveBuffer
    driving := none
    slotLeft := none }

/-- The RESET pin goes low: nothing is driven, the cycle in progress is given up, a held host access ends with a bus
error (R158, R178). -/
def State.assertReset (landed : List Bool) (s : State) : State :=
  { s with
    pins := { s.pins with resetLow := true }
    link := s.link.cutOff
    memory :=
      match s.port.current with
      | some c => c.giveUp landed s.memory
      | none => s.memory
    port := { s.port with current := none }
    host :=
      { s.host with
        held := none
        startup := none
        reply := if s.host.held.isSome then some .busError else s.host.reply } }

/-- RESET goes low; a pin that is low already changes nothing. -/
def execResetAsserted (landed : List Bool) (s : State) : Result :=
  if s.pins.resetLow then .next s else .next (s.assertReset landed)

/-- Power-on values, with what is not the part's kept (DESIGN CHOICE, log entry 19): local memory, the accesses on the host
bus, the levels of the input pins as last shown and the commands that wait (R178). The start-up of 16 CLK periods begins. -/
def State.powerOn (s : State) : State :=
  { State.reset with
    memory := s.memory
    pins := { s.pins with resetLow := false }
    host := { s.host with held := none, startup := some Config.hostStartup }
    pending := s.pending }

/-- The pin returns high and the part was not reset by a low level shorter than 1 µs (R178, log entry 12): what the
assertion did stands, and a request that waits for the Memory Port starts. UNVERIFIED (log entry 12): nothing ends what the
assertion cut short, so the list entry whose cycle was given up stays EXECUTING, a transaction or reply entry whose frame
was cut off stays ON-AIR or REPLY-ON-AIR, and the APERTURE-READ entry of a load that ended with a bus error stays allocated,
beside the one that the next load may take. -/
def State.notReset (s : State) : State :=
  { s with
    pins := { s.pins with resetLow := false }
    host := { s.host with startup := some Config.hostStartup } }.portNext

/-- RESET returns high (R178); a pin that is high already changes nothing. -/
def execResetReleased (pulse : ResetPulse) (s : State) : Result :=
  if s.pins.resetLow then
    match pulse with
    | .full => .next s.powerOn
    | .short taken => .next (if taken then s.powerOn else s.notReset)
  else .next s

/-- The part answers host accesses from the 16th CLK period on (R178). -/
def execHostPortReady (s : State) : Result :=
  running s fun s => { s with host := { s.host with startup := none } }

end Sys2Proof.Machine
end

