-- ==== Sys2Proof/Machine/Slots.lean ====
section
/-! DEFINITION. Command slot commands (chapter 8). -/

namespace Sys2Proof.Machine

/-- A slot parameter or buffer word (R138). -/
def execSlotParameterWrite (slot : SlotNo) (register : SlotRegister) (value : Word) (s : State) : Result :=
  hostWrite (.slotParameterWrite slot register value) s (State.writeSlot slot register value)

/-- GO (R139 to R141). -/
def execGo (slot : SlotNo) (s : State) : Result := hostWrite (.go slot) s (State.goSlot slot)

/-- RELEASE (R139, R144). -/
def execRelease (slot : SlotNo) (s : State) : Result := hostWrite (.release slot) s (State.releaseSlot slot)

/-- CANCEL (R139, R145, R146). -/
def execCancel (slot : SlotNo) (s : State) : Result := hostWrite (.cancel slot) s (State.cancelSlot slot)

/-- A slot command that names none of the three (R139). -/
def execSlotCommandUndefined (slot : SlotNo) (value : Word) (s : State) : Result :=
  hostWrite (.slotCommandUndefined slot value) s (State.refuseSlot slot)

/-- The presentation of an ISSUED slot whose noted entries have all left (R141). -/
def execSlotPresented (slot : SlotNo) (s : State) : Result := running s (State.presentSlot slot)

end Sys2Proof.Machine
end

