-- ==== Sys2Proof/Machine/Dispatch.lean ====
section
/-! DEFINITION. The meaning of each command, in the order of spec/opcode_table.json. -/

namespace Sys2Proof.Machine

/-- The effect of a command on everything but the queue. -/
def exec (i : Instr) (s : State) : Host.Outcome State Fault Refusal :=
  match i with
  | .join stn rate leaveToo enable => Sys2Proof.Machine.execJoin stn rate leaveToo enable s
  | .leave enable => Sys2Proof.Machine.execLeave enable s
  | .softReset slotBegun => Sys2Proof.Machine.execSoftReset slotBegun s
  | .inboundEnableWrite enable => Sys2Proof.Machine.execInboundEnableWrite enable s
  | .limitsWrite value => Sys2Proof.Machine.execLimitsWrite value s
  | .mapBaseWrite value => Sys2Proof.Machine.execMapBaseWrite value s
  | .linkCauseClear value => Sys2Proof.Machine.execLinkCauseClear value s
  | .interruptMaskWrite value => Sys2Proof.Machine.execInterruptMaskWrite value s
  | .fenceRead => Sys2Proof.Machine.execFenceRead s
  | .fenceReadComplete => Sys2Proof.Machine.execFenceReadComplete s
  | .signalPop value => Sys2Proof.Machine.execSignalPop value s
  | .eventPop value => Sys2Proof.Machine.execEventPop value s
  | .maintRegisterWrite register value => Sys2Proof.Machine.execMaintRegisterWrite register value s
  | .update => Sys2Proof.Machine.execUpdate s
  | .read => Sys2Proof.Machine.execRead s
  | .invalidateAll => Sys2Proof.Machine.execInvalidateAll s
  | .maintCommandUndefined value => Sys2Proof.Machine.execMaintCommandUndefined value s
  | .slotParameterWrite slot register value => Sys2Proof.Machine.execSlotParameterWrite slot register value s
  | .go slot => Sys2Proof.Machine.execGo slot s
  | .release slot => Sys2Proof.Machine.execRelease slot s
  | .cancel slot => Sys2Proof.Machine.execCancel slot s
  | .slotCommandUndefined slot value => Sys2Proof.Machine.execSlotCommandUndefined slot value s
  | .registerWrite offset value => Sys2Proof.Machine.execRegisterWrite offset value s
  | .registerAccessInvalid write size offset => Sys2Proof.Machine.execRegisterAccessInvalid write size offset s
  | .apertureStore offset size data => Sys2Proof.Machine.execApertureStore offset size data s
  | .apertureLoad offset size => Sys2Proof.Machine.execApertureLoad offset size s
  | .heldStorePlaced => Sys2Proof.Machine.execHeldStorePlaced s
  | .postedEntryPresented place => Sys2Proof.Machine.execPostedEntryPresented place s
  | .loadPresented => Sys2Proof.Machine.execLoadPresented s
  | .slotPresented slot => Sys2Proof.Machine.execSlotPresented slot s
  | .drainComplete => Sys2Proof.Machine.execDrainComplete s
  | .transmitOpportunity => Sys2Proof.Machine.execTransmitOpportunity s
  | .arbitrationLost => Sys2Proof.Machine.execArbitrationLost s
  | .readbackAbort => Sys2Proof.Machine.execReadbackAbort s
  | .requestAcknowledge bits => Sys2Proof.Machine.execRequestAcknowledge bits s
  | .replyAcknowledge bits => Sys2Proof.Machine.execReplyAcknowledge bits s
  | .announceTransmitted => Sys2Proof.Machine.execAnnounceTransmitted s
  | .leaveTransmitted => Sys2Proof.Machine.execLeaveTransmitted s
  | .backoffElapsed tag => Sys2Proof.Machine.execBackoffElapsed tag s
  | .loopbackBackoffElapsed tag => Sys2Proof.Machine.execLoopbackBackoffElapsed tag s
  | .replyBackoffElapsed source tag => Sys2Proof.Machine.execReplyBackoffElapsed source tag s
  | .responseTimeout tag => Sys2Proof.Machine.execResponseTimeout tag s
  | .roundGapElapsed => Sys2Proof.Machine.execRoundGapElapsed s
  | .joinListenComplete => Sys2Proof.Machine.execJoinListenComplete s
  | .mediumSyncRun => Sys2Proof.Machine.execMediumSyncRun s
  | .strayDominantBit => Sys2Proof.Machine.execStrayDominantBit s
  | .badFrame recessive => Sys2Proof.Machine.execBadFrame s recessive
  | .malformedFrame frame => Sys2Proof.Machine.execMalformedFrame frame s
  | .frameHeard source => Sys2Proof.Machine.execFrameHeard source s
  | .ownSourceFrameHeard => Sys2Proof.Machine.execOwnSourceFrameHeard s
  | .readReq source tag issue page offset count => Sys2Proof.Machine.execReadReq source tag issue page offset count s
  | .writeReq source tag issue page offset items => Sys2Proof.Machine.execWriteReq source tag issue page offset items s
  | .atomicReq source tag issue page offset op => Sys2Proof.Machine.execAtomicReq source tag issue page offset op s
  | .signal source tag issue value => Sys2Proof.Machine.execSignal source tag issue value s
  | .probe source tag issue => Sys2Proof.Machine.execProbe source tag issue s
  | .response source tag issue status data => Sys2Proof.Machine.execResponse source tag issue status data s
  | .announce source => Sys2Proof.Machine.execAnnounce source s
  | .leaveFrame source => Sys2Proof.Machine.execLeaveFrame source s
  | .executionStart => Sys2Proof.Machine.execExecutionStart s
  | .mapFillEnd transfers => Sys2Proof.Machine.execMapFillEnd transfers s
  | .dataCycleEnd transfers => Sys2Proof.Machine.execDataCycleEnd transfers s
  | .lockedReadPhaseEnd transfer => Sys2Proof.Machine.execLockedReadPhaseEnd transfer s
  | .lockedWritePhaseEnd transfer => Sys2Proof.Machine.execLockedWritePhaseEnd transfer s
  | .mapWriteEnd transfers => Sys2Proof.Machine.execMapWriteEnd transfers s
  | .maintMapReadEnd transfers => Sys2Proof.Machine.execMaintMapReadEnd transfers s
  | .discardedCycleEnd transfers => Sys2Proof.Machine.execDiscardedCycleEnd transfers s
  | .resetAsserted landed => Sys2Proof.Machine.execResetAsserted landed s
  | .resetReleased pulse => Sys2Proof.Machine.execResetReleased pulse s
  | .hostPortReady => Sys2Proof.Machine.execHostPortReady s
  | .startMarker => Sys2Proof.Machine.execStartMarker s
  | .acknowledgeSlotCompleted => Sys2Proof.Machine.execAcknowledgeSlotCompleted s

end Sys2Proof.Machine
end

