-- ==== Sys2Proof/Safety.lean ====
section
/-! DEFINITION. What a sound state is: the bounds of every collection, the Roster's and the Duplicate Filter's
invariants, as the rules state them of the part. Statements about every state use them as premises and conclusions. -/

namespace Sys2Proof.Machine

/-! ## Kinds of commands -/

/-- The accesses of the host on the host bus, through CS-REG or CS-APT (R169, R170); every other command is a happening
in the part, on the Link, on the Local Bus or at the RESET pin. -/
def isHostAccess : Instr → Bool
  | .join _ _ _ _ | .leave _ | .softReset _ | .inboundEnableWrite _ | .limitsWrite _ | .mapBaseWrite _
  | .linkCauseClear _ | .interruptMaskWrite _ | .fenceRead | .signalPop _ | .eventPop _ | .maintRegisterWrite _ _
  | .update | .read | .invalidateAll | .maintCommandUndefined _ | .slotParameterWrite _ _ _ | .go _ | .release _
  | .cancel _ | .slotCommandUndefined _ _ | .registerWrite _ _ | .registerAccessInvalid _ _ _ | .apertureStore _ _ _
  | .apertureLoad _ _ => true
  | .fenceReadComplete | .heldStorePlaced | .postedEntryPresented _ | .loadPresented | .slotPresented _
  | .drainComplete | .transmitOpportunity | .arbitrationLost | .readbackAbort | .requestAcknowledge _
  | .replyAcknowledge _ | .announceTransmitted | .leaveTransmitted | .backoffElapsed _ | .loopbackBackoffElapsed _
  | .replyBackoffElapsed _ _ | .responseTimeout _ | .roundGapElapsed | .joinListenComplete | .mediumSyncRun
  | .strayDominantBit | .badFrame _ | .malformedFrame _ | .frameHeard _ | .ownSourceFrameHeard
  | .readReq _ _ _ _ _ _ | .writeReq _ _ _ _ _ _ | .atomicReq _ _ _ _ _ _ | .signal _ _ _ _ | .probe _ _ _
  | .response _ _ _ _ _ | .announce _ | .leaveFrame _ | .executionStart | .mapFillEnd _ | .dataCycleEnd _
  | .lockedReadPhaseEnd _ | .lockedWritePhaseEnd _ | .mapWriteEnd _ | .maintMapReadEnd _ | .discardedCycleEnd _
  | .resetAsserted _ | .resetReleased _ | .hostPortReady | .startMarker | .acknowledgeSlotCompleted => false

/-- The executing entry of a list, with what stands before it and after it. -/
def executes (list pre : List ListEntry) (e : ListEntry) (post : List ListEntry) : Prop :=
  list = pre ++ e :: post ∧ e.state = .executing ∧ ∀ f ∈ pre ++ post, f.state ≠ .executing

/-- The oldest NEW entry of a list in which none is EXECUTING, with what stands before it and after it. -/
def nextToExecute (list pre : List ListEntry) (e : ListEntry) (post : List ListEntry) : Prop :=
  list = pre ++ e :: post ∧ e.state = .fresh ∧ (∀ f ∈ pre, f.state ≠ .fresh) ∧ ∀ f ∈ list, f.state ≠ .executing

/-- The state with its Inbound Request List and reply order set. -/
def State.withList (list : List ListEntry) (order : List (Station × Tag)) (s : State) : State :=
  { s with inbound := { s.inbound with list := list, replyOrder := order } }

/-- The state with an entry newly allocated at a tag, its issue bit flipped (R57, R61), and the queued order set. -/
def State.withNewEntry (g : Tag) (o : Origin) (target : Station) (body : TransBody) (st : TransState) (queued : List Tag)
    (s : State) : State :=
  { s with
    outbound :=
      { table :=
          s.outbound.table.set g
            (some
              { issue := !s.outbound.issueBits[g], origin := o, target := target, body := body, state := st
                attempts := 0, lastCode := none, cancel := false })
        issueBits := s.outbound.issueBits.set g (!s.outbound.issueBits[g])
        queued := queued } }

/-- A tag is the lowest free one (R57). -/
def State.lowestFree (s : State) (g : Tag) : Prop :=
  s.outbound.table[g] = none ∧ ∀ h : Tag, h < g → s.outbound.table[h] ≠ none

/-- The posted entry between two parts of the buffer is OPEN, the oldest for its target, with none for that target TAKEN
(R125). -/
def eligibleAt (pre : List PostedEntry) (e : PostedEntry) (post : List PostedEntry) : Prop :=
  e.taken = false ∧ (∀ f ∈ pre, f.target ≠ e.target) ∧ ∀ f ∈ post, f.target = e.target → f.taken = false

/-- No posted entry is eligible (R125). -/
def State.noneEligible (s : State) : Prop := ∀ pre e post, s.aperture.posted = pre ++ e :: post → ¬eligibleAt pre e post

/-- No held store can be placed or has ended (R124). -/
def State.noStoreDue (s : State) : Prop :=
  ∀ h, s.host.held = some (.store h) →
    s.membership.link ≠ .conflict ∧ (s.membership.link = .online → 8 ≤ s.aperture.posted.length)

/-- No held load has lost its last noted entry and still has to be presented (R128). -/
def State.noLoadDue (s : State) : Prop := ∀ l, s.host.held = some (.load l) → l.noted = [] → l.presented = true

/-- No slot has lost its last noted entry and still has to be presented (R141). -/
def State.noSlotDue (s : State) : Prop := ∀ k : SlotNo, s.slots[k].state ≠ .fence []

/-- No held fence read finds the buffer empty (R132). -/
def State.noFenceDue (s : State) : Prop := s.host.held = some .fence → s.aperture.posted ≠ []

/-! ## Bounds of the collections (00_scope.md section 8) -/

/-- A posted entry has 1 to 8 words within its page (R122, R123). -/
def PostedEntry.sound (e : PostedEntry) : Prop :=
  1 ≤ e.words.length ∧ e.words.length ≤ 8 ∧ e.first.val + e.words.length ≤ 1024

/-- The Event Queue has at most 16 records, and the overflow flag only beside a record (R159). -/
def EventQueue.sound (q : EventQueue) : Prop :=
  q.records.length ≤ 16 ∧ (q.overflow = true → q.records ≠ [])

/-- The Posted Write Buffer has at most 8 entries, each sound, no two of one name; the fence count is at most 255
(R122, R131). -/
def Aperture.sound (u : Aperture) : Prop :=
  u.posted.length ≤ 8 ∧ (∀ e ∈ u.posted, e.sound) ∧ (u.posted.map PostedEntry.place).Nodup ∧ u.failures ≤ 255

/-- The Map Cache has at most 24 entries, no two of one page, and none of the page of the pending fill (R5, R9). -/
def WindowMap.sound (u : WindowMap) : Prop :=
  u.cache.length ≤ 24 ∧ (u.cache.map CacheEntry.page).Nodup ∧
    ∀ f, u.fill = some f → f.page ∉ u.cache.map CacheEntry.page

/-- Every collection is within its bounds, and local memory is in its one form. -/
def State.bounded (s : State) : Prop :=
  s.events.sound ∧ s.signals.length ≤ 8 ∧ s.inbound.list.length ≤ 8 ∧ s.aperture.sound ∧ s.map.sound ∧
    memoryWf s.memory = true

/-! ## The Roster (R114) -/

/-- The record of a station other than the own one, under a silent threshold (R114). -/
def RosterRecord.sound (r : RosterRecord) (threshold : Nat) : Prop :=
  r.state ≠ .self ∧ (r.state = .silent → r.count = threshold) ∧ (r.state ≠ .silent → r.count < threshold) ∧
    (r.state = .departed → r.count = 0)

/-- The limits are within their ranges (R101), the own record is SELF with count 0, and every other is sound (R114). In
OFFLINE the Roster is fresh (R110, R118) and the medium is not followed (R79). -/
def State.rosterSound (s : State) : Prop :=
  s.membership.config.responseTimeout ≠ 0#8 ∧ s.membership.config.attemptLimit ≠ 0#4 ∧
    s.membership.config.silentThreshold ≠ 0#3 ∧
    s.membership.roster[s.membership.own] = { state := .self, count := 0 } ∧
    (∀ i : Station, i ≠ s.membership.own →
      (s.membership.roster[i]).sound s.membership.config.silentThreshold.toNat) ∧
    (s.membership.link = .offline → s.membership.roster = freshRoster s.membership.own ∧ s.link.phase = .idle)

/-! ## The Inbound Request List and the Duplicate Filter (R21) -/

/-- At most one entry is EXECUTING, only an EXECUTING entry is orphaned, no two entries that are not orphaned share a
source and tag, and a filter record is OPEN with an issue bit exactly when such an entry of that issue bit stands in the
list (R21). -/
def Inbound.sound (u : Inbound) : Prop :=
  u.list.countP (fun e => e.state == .executing) ≤ 1 ∧
    (∀ e ∈ u.list, e.orphaned = true → e.state = .executing) ∧
    u.list.Pairwise (fun e f => e.orphaned = true ∨ f.orphaned = true ∨ e.source ≠ f.source ∨ e.tag ≠ f.tag) ∧
    ∀ (i : Station) (t : Tag) (b : Bool),
      u.filter[i][t] = { issue := b, state := .opened } ↔
        ∃ e ∈ u.list, e.orphaned = false ∧ e.source = i ∧ e.tag = t ∧ e.issue = b

/-- The cycle in progress is a data cycle of the Inbound Engine that soft reset has not cut off. -/
def Cycle.engineData (c : Cycle) : Bool := c.request.kind.isData && c.discard != .bySoftReset

/-- What the Memory Port holds for the engine belongs to the EXECUTING entry (R149): a waiting request, a cycle that is not
marked and a data cycle go with one; a data cycle that CONFLICT has marked goes with an EXECUTING entry that is orphaned,
through LEAVE and JOIN as well (R38, R39, R103), and with no engine request waiting (R156); a request waits only behind a
cycle that hands the engine nothing (R150); and maintenance asks for map cycles alone. -/
def State.engineSound (s : State) : Prop :=
  (s.port.engine.isSome = true → s.executing.isSome = true) ∧
    (∀ c, s.port.current = some c → c.requester = .engine → c.discard = .clear → s.executing.isSome = true) ∧
    (∀ c, s.port.current = some c → c.engineData = true → s.executing.isSome = true) ∧
    (∀ c, s.port.current = some c → c.engineData = true → c.discard = .byConflict →
      (∀ e ∈ s.inbound.list, e.state = .executing → e.orphaned = true) ∧ s.port.engine = none) ∧
    (∀ c, s.port.current = some c → s.port.engine.isSome = true → c.requester = .maintenance ∨ c.discard ≠ .clear) ∧
    (∀ c, s.port.current = some c → c.requester = .maintenance → c.request.kind.isData = false) ∧
    (∀ q, s.port.maintenance = some q → q.kind.isData = false)

/-- Outside ONLINE and DRAINING only orphans stand in the list (R39), and a LEAVE is pending, or on the medium, only in
DRAINING with an empty list (R109). -/
def State.leaveSound (s : State) : Prop :=
  (s.takesPart = false → ∀ e ∈ s.inbound.list, e.orphaned = true) ∧
    (s.membership.leavePending = true → s.membership.link = .draining ∧ s.inbound.list = []) ∧
    (∀ f, s.link.phase = .own { owner := .leave, frame := f } → s.membership.leavePending = true)

/-- The Inbound Unit is sound, with what that rests on. -/
def State.inboundSound (s : State) : Prop := s.inbound.sound ∧ s.engineSound ∧ s.leaveSound

/-! ## The queued order (R62) -/

/-- The queued order names each QUEUED entry once and nothing else, and no loopback entry (R62, R71); the request frame on
the medium is that of an ON-AIR entry for another station (R62); outside ONLINE and DRAINING no entry is allocated (R60, R76,
R109); and a LEAVE is pending, or on the medium, only in DRAINING with the Transaction Table and the Posted Write Buffer
empty (R109). -/
def State.queueSound (s : State) : Prop :=
  s.outbound.queued.Nodup ∧
    (∀ t : Tag, t ∈ s.outbound.queued ↔ ∃ e, s.outbound.table[t] = some e ∧ e.state = .queued) ∧
    (∀ (t : Tag) e, s.outbound.table[t] = some e → e.state = .queued → e.target ≠ s.membership.own) ∧
    (∀ t f, s.link.phase = .own { owner := .transaction t, frame := f } →
      ∃ e, s.outbound.table[t] = some e ∧ e.state = .onAir ∧ e.target ≠ s.membership.own) ∧
    (s.takesPart = false → ∀ t : Tag, s.outbound.table[t] = none) ∧
    (s.membership.leavePending = true →
      s.membership.link = .draining ∧ s.aperture.posted = [] ∧ ∀ t : Tag, s.outbound.table[t] = none) ∧
    (∀ f, s.link.phase = .own { owner := .leave, frame := f } → s.membership.leavePending = true)

end Sys2Proof.Machine
end

