-- ==== Sys2Proof/WellFormed.lean ====
section
/-! DEFINITION. When a command is one that its row and rule describe: its operands are within what the rule lets them
be. -/

namespace Sys2Proof

/-- The condition on the operands of each command. -/
def Instr.wellFormed : Instr → Bool
  | .join _ _ _ _ => true
  | .leave _ => true
  | .softReset _ => true
  | .inboundEnableWrite _ => true
  | .limitsWrite _ => true
  | .mapBaseWrite _ => true
  | .linkCauseClear _ => true
  | .interruptMaskWrite _ => true
  | .fenceRead => true
  | .fenceReadComplete => true
  | .signalPop _ => true
  | .eventPop _ => true
  | .maintRegisterWrite _ _ => true
  | .update => true
  | .read => true
  | .invalidateAll => true
  -- bits 1 to 0 name no operation (R175)
  | .maintCommandUndefined w => w.toNat % 4 == 0
  | .slotParameterWrite _ _ _ => true
  | .go _ => true
  | .release _ => true
  | .cancel _ => true
  -- the value names no command (R175)
  | .slotCommandUndefined _ w => w != 1#32 && w != 2#32 && w != 3#32
  -- a word access at an aligned offset (R169)
  | .registerWrite offset _ => offset.toNat % 4 == 0
  -- a byte, a halfword or a misaligned word (R169)
  | .registerAccessInvalid _ size offset => size != .word || offset.toNat % 4 != 0
  | .apertureStore _ _ _ => true
  | .apertureLoad _ _ => true
  | .heldStorePlaced => true
  | .postedEntryPresented _ => true
  | .loadPresented => true
  | .slotPresented _ => true
  | .drainComplete => true
  | .transmitOpportunity => true
  | .arbitrationLost => true
  | .readbackAbort => true
  | .requestAcknowledge _ => true
  | .replyAcknowledge _ => true
  | .announceTransmitted => true
  | .leaveTransmitted => true
  | .backoffElapsed _ => true
  | .loopbackBackoffElapsed _ => true
  | .replyBackoffElapsed _ _ => true
  | .responseTimeout _ => true
  | .roundGapElapsed => true
  | .joinListenComplete => true
  | .mediumSyncRun => true
  | .strayDominantBit => true
  -- a violation is met at the seventh recessive bit, and no longer run stands inside a frame (R80)
  | .badFrame recessive => decide (recessive ≤ 7)
  -- a frame that can be on the medium, and does not fit its kind (R83, R85)
  | .malformedFrame f => f.carriable && f.malformed
  | .frameHeard _ => true
  | .ownSourceFrameHeard => true
  -- word count 1 to 16 (R85)
  | .readReq _ _ _ _ _ count => decide (1 ≤ count) && decide (count ≤ 16)
  -- length 1 to 16 (R85)
  | .writeReq _ _ _ _ _ items => decide (1 ≤ items.length) && decide (items.length ≤ 16)
  | .atomicReq _ _ _ _ _ _ => true
  | .signal _ _ _ _ => true
  | .probe _ _ _ => true
  -- length 0 to 16 (R85)
  | .response _ _ _ _ data => decide (data.length ≤ 16)
  | .announce _ => true
  | .leaveFrame _ => true
  | .executionStart => true
  | .mapFillEnd _ => true
  | .dataCycleEnd _ => true
  | .lockedReadPhaseEnd _ => true
  -- the lock keeps other masters out (R153)
  | .lockedWritePhaseEnd t => t.others.isEmpty
  | .mapWriteEnd _ => true
  | .maintMapReadEnd _ => true
  | .discardedCycleEnd _ => true
  | .resetAsserted _ => true
  | .resetReleased _ => true
  | .hostPortReady => true
  | .startMarker => true
  | .acknowledgeSlotCompleted => true

end Sys2Proof
end

