-- ==== Sys2Proof/Certificates/Slice0/Obligations.lean ====
section
/-! DEFINITION. The statements for the provers. Each is an equation for the whole next state where it can be: what the
equation's record does not name is unchanged. -/

open Sys2Proof Sys2Proof.Machine

/-! ## The queue, the host bus and the part at rest -/

/-- One step takes the command at the front of the queue and runs it with the queue's rest. -/
def Obligations.StepRunsTheFrontCommand : Prop :=
  ∀ (c : Instr) (rest : List Instr) (s : State),
    step { s with pending := c :: rest } = exec c { s with pending := rest }

/-- Every command answers a next state in every state, and leaves the queue as it was: the block stops on nothing. -/
def Obligations.EveryCommandAnswersAndKeepsTheQueue : Prop :=
  ∀ (c : Instr) (s : State), ∃ t, exec c s = .next t ∧ t.pending = s.pending

/-- R170, R178: while an access is held, while RESET is low or the start-up runs, and while earlier accesses wait, a
host access waits on the host bus and has no other effect (that the bus keeps a list of them is the model's choice, log entry
7). MODEL'S CHOICE (log entry 5), where R178 says only what the part drives and gives up: while RESET is low no happening but
the return of RESET to high changes anything. -/
def Obligations.BlockedAccessesWaitAndResetLowFreezes : Prop :=
  (∀ (c : Instr) (s : State), isHostAccess c = true → s.hostBlocked = true →
    exec c s = .next { s with host := { s.host with waiting := s.host.waiting ++ [c] } }) ∧
  (∀ (c : Instr) (s : State), isHostAccess c = false → (∀ p, c ≠ .resetReleased p) → s.pins.resetLow = true →
    exec c s = .next s)

/-- MODEL'S CHOICE (log entries 6 and 7): a step with no command in the queue. What is due is carried out; with nothing due,
the access that waits first on the host bus is carried out once the Host Port takes it (R170, R178), and those behind it go on
waiting; while RESET is low nothing happens. With neither, the step is one bit time of 400 ns divided by 1, 2, 4 or 8 by the
rate, in every state of the medium and of the link: every BACKOFF and REPLY-BACKOFF interval loses one BT (R100) and every
response timer one bit time in ns (R67); where the Link Unit follows the medium, an IDLE one gains one BT of idle, the run
after JOIN one bit, the slot and the delimiter lose one, and after the slot's last bit no code is driven (R79, R92); a code
that a soft reset found begun loses one of its bits, after a JOIN too (R99; beside the run: model's choice, log entry 27); the
start-up of the Host Port loses the CLK periods of one bit time (R178). -/
def Obligations.IdleStepIsOneBitTime : Prop :=
  (∀ (c : Instr) (s : State), s.pending = [] → s.due = some c → step s = exec c s) ∧
  (∀ (c : Instr) (rest : List Instr) (s : State), s.pending = [] → s.due = none → s.pins.resetLow = false →
    s.host.startup = none → s.host.held = none → s.host.waiting = c :: rest →
    ∃ t, exec c { s with host := { s.host with waiting := [] } } = .next t ∧
      step s = .next { t with host := { t.host with waiting := t.host.waiting ++ rest } }) ∧
  (∀ (s : State), s.pending = [] → s.pins.resetLow = true → step s = .next s) ∧
  (∀ (s : State), s.pending = [] → s.due = none → s.pins.resetLow = false →
    s.host.waiting = [] ∨ s.host.startup ≠ none ∨ s.host.held ≠ none →
    let ns := 400 / 2 ^ s.membership.rate.toNat
    let medium : LinkUnit :=
      match s.link.phase with
      | .idle => { s.link with idleLength := s.link.idleLength + 1 }
      | .recovering => { s.link with phase := .idle, idleLength := 1 }
      | .sync run => { s.link with phase := .sync (run + 1) }
      | .ending n =>
        if n ≤ 1 then { s.link with phase := .idle, idleLength := 0, driving := none }
        else if n = 2 then { s.link with phase := .ending 1, driving := none }
        else { s.link with phase := .ending (n - 1) }
      | .frame | .own _ => s.link
    let followed : Prop := s.link.attached = true ∧ s.membership.link ≠ .offline
    ∃ t, step s = .next t ∧
      (followed → t.link = { medium with slotLeft := s.link.slotLeft.map fun n => n - 1 }) ∧
      (¬followed → t.link = { s.link with slotLeft := s.link.slotLeft.map fun n => n - 1 }) ∧
      (∀ g : Tag, s.outbound.table[g] = none → t.outbound.table[g] = none) ∧
      (∀ (g : Tag) (e : TransEntry), s.outbound.table[g] = some e →
        (∀ n, e.state = .backoff n → t.outbound.table[g] = some { e with state := .backoff (n - 1) }) ∧
        (∀ n, e.state = .waiting n → t.outbound.table[g] = some { e with state := .waiting (n - ns) }) ∧
        (e.state = .queued ∨ e.state = .onAir → t.outbound.table[g] = some e)) ∧
      t.outbound.issueBits = s.outbound.issueBits ∧ t.outbound.queued = s.outbound.queued ∧
      t.inbound.list = s.inbound.list.map (fun e =>
        match e.state with
        | .replyBackoff n => { e with state := .replyBackoff (n - 1) }
        | _ => e) ∧
      t.inbound.replyOrder = s.inbound.replyOrder ∧ t.inbound.filter = s.inbound.filter ∧
      t.inbound.enable = s.inbound.enable ∧
      t.host = { s.host with startup := s.host.startup.map fun n => n - ns / 25 } ∧
      t.membership = s.membership ∧ t.map = s.map ∧ t.signals = s.signals ∧ t.aperture = s.aperture ∧
      t.slots = s.slots ∧ t.port = s.port ∧ t.events = s.events ∧ t.interrupt = s.interrupt ∧
      t.pins = s.pins ∧ t.memory = s.memory ∧ t.pending = s.pending)

/-! ## Reset -/

/-- R178, R101, R118: RESET returning high after a full low level leaves the power-on values in every block, and the start-up
of 16 CLK periods runs. MODEL'S CHOICE (log entry 19): local memory, the levels of STN and RATE as last recorded, the accesses
that wait on the host bus and the queue are not the part's and stay. After a low level shorter than 1 µs, which may or may not
reset the part (R178), it is the same where the level reset the part; MODEL'S CHOICE (log entry 12): where it did not, what the
level left stands, the start-up runs, and a request that waits for the Memory Port starts. R101, R102, R118, R168, R173, R136,
R120, R114: what the registers read right after reset; that `State.reset` is the state to read them in is the model's choice
(log entry 9). -/
def Obligations.ResetReleasedGivesPowerOnValues : Prop :=
  (∀ (s : State), s.pins.resetLow = true → ∃ t, exec (.resetReleased .full) s = .next t ∧
    t.membership.link = .offline ∧ t.membership.own = 0 ∧ t.membership.rate = 0#2 ∧
    t.membership.config = { responseTimeout := 40#8, attemptLimit := 8#4, silentThreshold := 3#3, mapBase := 0#17 } ∧
    t.membership.announcePending = false ∧ t.membership.leavePending = false ∧
    t.membership.roster[(0 : Station)] = { state := .self, count := 0 } ∧
    (∀ i : Station, i ≠ 0 → t.membership.roster[i] = { state := .unheard, count := 0 }) ∧
    t.link =
      { attached := false, phase := .idle, idleLength := 0, spent := false, receiveBuffer := .free, driving := none
        slotLeft := none } ∧
    (∀ g : Tag, t.outbound.table[g] = none ∧ t.outbound.issueBits[g] = false) ∧ t.outbound.queued = [] ∧
    t.inbound.list = [] ∧ t.inbound.replyOrder = [] ∧ t.inbound.enable = false ∧
    (∀ (i : Station) (g : Tag), t.inbound.filter[i][g] = { issue := false, state := .vacant }) ∧
    t.map.cache = [] ∧ t.map.fill = none ∧ t.map.maint.state = .idle ∧ t.map.maint.lastError = false ∧
    t.map.maint.page = 0 ∧ mapWord0 t.map.maint.entry = 0#32 ∧ mapWord1 t.map.maint.entry = 0#32 ∧
    t.signals = [] ∧ (∀ a : Fin 64, t.aperture.map[a] = { valid := false, target := 0, page := 0 }) ∧
    t.aperture.posted = [] ∧ t.aperture.failures = 0 ∧
    (∀ k : SlotNo, t.slots[k].state = .idle ∧ t.slots[k].kind = 0#4 ∧ t.slots[k].target = 0 ∧ t.slots[k].page = 0#16 ∧
      t.slots[k].offset = 0#16 ∧ t.slots[k].count = 0#8 ∧ t.slots[k].operandA = 0#32 ∧ t.slots[k].operandB = 0#32 ∧
      t.slots[k].cancelPending = false ∧ t.slots[k].status = none ∧ t.slots[k].result = 0#32 ∧
      ∀ i : Fin 16, t.slots[k].buffer[i] = 0#32) ∧
    t.port = { current := none, maintenance := none, engine := none } ∧ t.events = { records := [], overflow := false } ∧
    t.interrupt = { linkCause := false, enables := 0#7 } ∧ t.causes = 0#7 ∧ t.int = false ∧
    t.host = { held := none, waiting := s.host.waiting, startup := some 16, reply := s.host.reply } ∧
    t.pins = { s.pins with resetLow := false } ∧ t.memory = s.memory ∧ t.pending = s.pending) ∧
  (∀ (s : State), s.pins.resetLow = true →
    exec (.resetReleased (.short true)) s = exec (.resetReleased .full) s ∧
    exec (.resetReleased (.short false)) s = .next
      ({ s with
        pins := { s.pins with resetLow := false }
        host := { s.host with startup := some 16 } } : State).portNext) ∧
  (State.reset.readRegister 0x000#12 = 0x3A501601#32 ∧ State.reset.readRegister 0x008#12 = 0#32 ∧
    State.reset.readRegister 0x00C#12 = 0x3828#32 ∧ State.reset.readRegister 0x010#12 = 0#32 ∧
    State.reset.readRegister 0x018#12 = 0#32 ∧ State.reset.readRegister 0x080#12 = 4#32 ∧
    State.reset.readRegister 0x084#12 = 0#32 ∧ State.reset.readRegister 0x100#12 = 0#32 ∧
    State.reset.readRegister 0x220#12 = 0#32 ∧ State.reset.readRegister 0x040#12 = 0#32)

/-- R178, R158: RESET going low gives up the cycle in progress, ends a held access with a bus error, and cuts off the
frame and the slot, and the start-up of the Host Port if it runs; where no write is on the Local Bus local memory is unchanged,
and of a write there any of its words may have been written. MODEL'S CHOICE: every other block and the
accesses that wait stay as they were until the pin returns (log entries 12 and 19). At the 16th CLK period after its return
the Host Port answers; that the row acts whatever the start-up count holds is the model's choice (log entry 8). -/
def Obligations.ResetPinGoesLowAndHostPortReturns : Prop :=
  (∀ (landed : List Bool) (s : State), s.pins.resetLow = false →
    ∃ t, exec (.resetAsserted landed) s = .next t ∧ t.pins = { s.pins with resetLow := true } ∧
      t.port = { s.port with current := none } ∧ t.host.held = none ∧ t.host.waiting = s.host.waiting ∧ t.host.startup = none ∧
      (s.host.held ≠ none → t.host.reply = some .busError) ∧ (s.host.held = none → t.host.reply = s.host.reply) ∧
      t.link.driving = none ∧ t.link.slotLeft = none ∧ t.onAir = none ∧
      (s.onAir ≠ none → t.link.receiveBuffer = .free) ∧ (s.port.current = none → t.memory = s.memory) ∧
      (∀ c n, s.port.current = some c → c.request.kind = .dataRead n → t.memory = s.memory) ∧
      (∀ c p, s.port.current = some c → c.request.kind = .mapRead p → t.memory = s.memory) ∧
      (∀ c op, s.port.current = some c → c.request.kind = .locked op → c.old = none → t.memory = s.memory) ∧
      (∀ c op old v, s.port.current = some c → c.request.kind = .locked op → c.old = some old → op.newValue old = some v →
        t.memory = writeLanded [{ mask := 0xF#4, data := v }] c.request.addr landed s.memory) ∧
      (∀ c ws, s.port.current = some c → c.request.kind = .maskedWrite ws →
        t.memory = writeLanded ws c.request.addr landed s.memory) ∧
      (∀ c p e, s.port.current = some c → c.request.kind = .mapWrite p e →
        t.memory =
          writeLanded [{ mask := 0xF#4, data := mapWord0 e }, { mask := 0xF#4, data := mapWord1 e }] c.request.addr landed
            s.memory) ∧
      t.membership = s.membership ∧ t.outbound = s.outbound ∧ t.inbound = s.inbound ∧ t.map = s.map ∧
      t.signals = s.signals ∧ t.aperture = s.aperture ∧ t.slots = s.slots ∧ t.events = s.events ∧
      t.interrupt = s.interrupt ∧ t.pending = s.pending) ∧
  (∀ (s : State), s.pins.resetLow = false →
    exec .hostPortReady s = .next { s with host := { s.host with startup := none } }) ∧
  (∀ (w : MaskedWord) (ws : List MaskedWord) (a : Word) (landed : List Bool) (m : List Host.Cell),
    writeLanded [] a landed m = m ∧ writeLanded ws a [] m = m ∧
    writeLanded (w :: ws) a (true :: landed) m = writeLanded ws (a + 4#32) landed (writeLanes m a w.mask w.data) ∧
    writeLanded (w :: ws) a (false :: landed) m = writeLanded ws (a + 4#32) landed m)

/-! ## The register window -/

/-- R173: the identification register reads 3A501601h in every state, its fields are 3A5h, 016h and 01h, and a write
to it is ignored. -/
def Obligations.IdentificationReadsTheSameAlways : Prop :=
  ∀ (s : State) (v : Word), s.readRegister 0x000#12 = 0x3A501601#32 ∧
    (s.readRegister 0x000#12).extractLsb' 20 12 = 0x3A5#12 ∧ (s.readRegister 0x000#12).extractLsb' 8 12 = 0x016#12 ∧
    (s.readRegister 0x000#12).extractLsb' 0 8 = 0x01#8 ∧
    (s.hostBlocked = false → exec (.registerWrite 0x000#12 v) s = .next (s.answerHost .done))

/-- R120, R175: a word written to the register of aperture page a gives that Aperture Map entry VALID, target and page
from its bits and touches nothing else; the register then reads those bits back and 0 elsewhere. -/
def Obligations.ApertureMapRegisterHoldsWhatIsWritten : Prop :=
  ∀ (a : Fin 64) (v : Word) (s : State), s.hostBlocked = false →
    ∃ e : ApertureEntry, e.valid = v.getLsbD 31 ∧ e.target.val = (v.extractLsb' 16 4).toNat ∧
      e.page.val = (v.extractLsb' 0 12).toNat ∧
      exec (.registerWrite (BitVec.ofNat 12 (0x100 + 4 * a.val)) v) s = .next
        { s with
          aperture := { s.aperture with map := s.aperture.map.set a e }
          host := { s.host with reply := some .done } } ∧
      ∀ t, exec (.registerWrite (BitVec.ofNat 12 (0x100 + 4 * a.val)) v) s = .next t →
        t.readRegister (BitVec.ofNat 12 (0x100 + 4 * a.val)) = v &&& 0x800F0FFF#32

/-- R169: a byte, halfword or misaligned access through CS-REG ends with a bus error and changes no state; so does a word write
at an offset that is not a multiple of 4. R169, R174: a word write at an aligned offset that holds no register, or one that is
read only, completes and changes nothing, and an offset that holds no register, or one that is write only, reads 0. R169, R170,
R178: a word read, but for that of the fence register, which is a command of its own, waits while the Host Port takes no
access, and ends with a bus error or with the register's word. -/
def Obligations.InvalidRegisterAccessEndsWithABusError : Prop :=
  (∀ (w : Bool) (size : AccessSize) (offset : BitVec 12) (v : Word) (s : State), s.hostBlocked = false →
    exec (.registerAccessInvalid w size offset) s = .next { s with host := { s.host with reply := some .busError } } ∧
      (offset.toNat % 4 ≠ 0 →
        exec (.registerWrite offset v) s = .next { s with host := { s.host with reply := some .busError } }) ∧
      (offset.toNat % 4 = 0 →
        offset.toNat ∉ [0x004, 0x00C, 0x010, 0x014, 0x018, 0x034, 0x04C, 0x060, 0x064, 0x068, 0x06C] →
        offset.toNat < 0x100 ∨ 0x400 ≤ offset.toNat →
        exec (.registerWrite offset v) s = .next { s with host := { s.host with reply := some .done } }) ∧
      (∀ (k : SlotNo) (j : Nat), offset.toNat = 0x200 + 0x80 * k.val + j →
        j ∈ [0x20, 0x24, 0x28, 0x2C, 0x30, 0x34, 0x38, 0x3C] →
        exec (.registerWrite offset v) s = .next { s with host := { s.host with reply := some .done } }) ∧
      (0x400 ≤ offset.toNat ∨ (0x0C0 ≤ offset.toNat ∧ offset.toNat < 0x100) ∨
          offset.toNat ∈
            [0x034, 0x038, 0x03C, 0x04C, 0x050, 0x054, 0x058, 0x05C, 0x06C, 0x074, 0x078, 0x07C] ∨
          (∃ (k : SlotNo) (j : Nat), offset.toNat = 0x200 + 0x80 * k.val + j ∧
            j ∈ [0x1C, 0x28, 0x2C, 0x30, 0x34, 0x38, 0x3C]) →
        s.readRegister offset = 0#32)) ∧
  (∀ (offset : BitVec 12) (s : State),
    (s.hostBlocked = true → s.hostRead offset = .waits) ∧
    (s.hostBlocked = false → offset.toNat % 4 ≠ 0 → s.hostRead offset = .busError) ∧
    (s.hostBlocked = false → offset.toNat % 4 = 0 → offset ≠ 0x028#12 →
      s.hostRead offset = .word (s.readRegister offset)))

/-! ## CONTROL -/

/-- R103, R171: JOIN in OFFLINE samples STN and RATE, makes the Roster fresh, attaches the Link Unit and enters
LISTENING; in any other link state it is ignored but that, written with LEAVE, it is that LEAVE. Inbound Enable takes
the value written. R107, R109, R110: what LEAVE does in each link state. R171, R174: a word written to CONTROL with JOIN, or
with LEAVE alone, is that command; MODEL'S CHOICE (log entry 10): a JOIN written so samples the levels of STN and RATE as last
recorded. MODEL'S CHOICE (log entry 27): a code that a soft reset found begun is driven on through a JOIN and cut off by a
LEAVE. -/
def Obligations.JoinAndLeaveActByLinkState : Prop :=
  (∀ (stn : Station) (rate : BitVec 2) (both enable : Bool) (s : State), s.hostBlocked = false →
    (s.membership.link = .offline →
      ∃ roster : Vector RosterRecord 16, roster[stn] = { state := .self, count := 0 } ∧
        (∀ i : Station, i ≠ stn → roster[i] = { state := .unheard, count := 0 }) ∧
        exec (.join stn rate both enable) s = .next
          { s with
            membership := { s.membership with link := .listening, own := stn, rate := rate, roster := roster }
            link := { s.link with attached := true, phase := .sync 0, idleLength := 0, spent := false }
            inbound := { s.inbound with enable := enable }
            interrupt := { s.interrupt with linkCause := true }
            host := { s.host with reply := some .done }
            pins := { s.pins with stn := stn, rate := rate } }) ∧
    (s.membership.link ≠ .offline →
      exec (.join stn rate false enable) s = .next
          { s with inbound := { s.inbound with enable := enable }, host := { s.host with reply := some .done } } ∧
        exec (.join stn rate true enable) s = exec (.leave enable) s)) ∧
  (∀ (enable : Bool) (s : State), s.hostBlocked = false →
    (s.membership.link = .offline ∨ s.membership.link = .draining →
      exec (.leave enable) s = .next
        { s with inbound := { s.inbound with enable := enable }, host := { s.host with reply := some .done } }) ∧
    (s.membership.link = .listening ∨ s.membership.link = .announcing ∨ s.membership.link = .conflict →
      ∃ (roster : Vector RosterRecord 16) (filter : Vector (Vector FilterRecord 16) 16),
        roster[s.membership.own] = { state := .self, count := 0 } ∧
        (∀ i : Station, i ≠ s.membership.own → roster[i] = { state := .unheard, count := 0 }) ∧
        (∀ (i : Station) (g : Tag), (filter[i][g]).state = .vacant) ∧
        exec (.leave enable) s = .next
          { s with
            membership :=
              { s.membership with
                link := .offline, announcePending := false, leavePending := false, roster := roster }
            link :=
              { s.link with
                attached := false, phase := .idle, idleLength := 0, receiveBuffer := .free, driving := none
                slotLeft := none }
            inbound := { s.inbound with enable := enable, filter := filter }
            interrupt := { s.interrupt with linkCause := true }
            host := { s.host with reply := some .done } }) ∧
    (s.membership.link = .online →
      exec (.leave enable) s = .next
        { s with
          membership :=
            { s.membership with
              link := .draining
              leavePending :=
                s.membership.leavePending ||
                  (s.outbound.table.toList.all Option.isNone && s.aperture.posted.isEmpty && s.inbound.list.isEmpty) }
          inbound := { s.inbound with enable := enable }
          interrupt := { s.interrupt with linkCause := true }
          host := { s.host with reply := some .done } })) ∧
  (∀ (v : Word) (s : State), s.hostBlocked = false → v.getLsbD 2 = false →
    (v.getLsbD 0 = true →
      exec (.registerWrite 0x004#12 v) s =
        exec (.join s.pins.stn s.pins.rate (v.getLsbD 1) (v.getLsbD 8)) s) ∧
    (v.getLsbD 0 = false → v.getLsbD 1 = true →
      exec (.registerWrite 0x004#12 v) s = exec (.leave (v.getLsbD 8)) s))

/-- R172 with R13, R19, R20, R40, R49, R77, R99, R118, R134, R148, R157, R165, R168: SOFT-RESET keeps the Start
Configuration, the own number and rate, the Aperture Map and the interrupt enables; every other block takes its
soft-reset values, and the cycle on the Local Bus runs on, marked. R99: an acknowledge code whose slot has begun is driven to the
end of its third bit on the attached Link Unit; one decided and not begun is not driven, and the Link Unit detaches at once.
R171, R174: a word written to CONTROL with SOFT-RESET is that command, a code being driven counted as begun (log entry 20). -/
def Obligations.SoftResetKeepsOnlyWhatItsRuleKeeps : Prop :=
  (∀ (begun : Bool) (s : State), s.hostBlocked = false →
    ∃ t, exec (.softReset begun) s = .next t ∧
      t.membership.config = s.membership.config ∧ t.membership.own = s.membership.own ∧
      t.membership.rate = s.membership.rate ∧ t.membership.link = .offline ∧
      t.membership.announcePending = false ∧ t.membership.leavePending = false ∧
      t.membership.roster[s.membership.own] = { state := .self, count := 0 } ∧
      (∀ i : Station, i ≠ s.membership.own → t.membership.roster[i] = { state := .unheard, count := 0 }) ∧
      t.link.phase = .idle ∧ t.link.idleLength = 0 ∧ t.link.spent = false ∧ t.link.receiveBuffer = .free ∧
      (t.link.attached = true ↔ t.link.driving ≠ none) ∧ (t.link.slotLeft ≠ none ↔ t.link.driving ≠ none) ∧
      (s.link.driving = none → t.link.driving = none) ∧
      (begun = false → s.link.slotLeft = none → (∀ n, s.link.phase = .ending n → 4 ≤ n) → t.link.driving = none) ∧
      (∀ code, s.link.driving = some code →
        (∀ n, s.link.slotLeft = none → s.link.phase = .ending n → begun = true ∨ n < 4 →
          t.link.driving = some code ∧ t.link.slotLeft = some (n - 1)) ∧
        (∀ n, s.link.slotLeft = some n → t.link.driving = some code ∧ t.link.slotLeft = some n)) ∧
      (∀ g : Tag, t.outbound.table[g] = none ∧ t.outbound.issueBits[g] = false) ∧ t.outbound.queued = [] ∧
      t.inbound.list = [] ∧ t.inbound.replyOrder = [] ∧ t.inbound.enable = false ∧
      (∀ (i : Station) (g : Tag), t.inbound.filter[i][g] = { issue := false, state := .vacant }) ∧
      t.map.cache = [] ∧ t.map.fill = none ∧ t.map.maint.state = .idle ∧ t.map.maint.lastError = false ∧
      t.map.maint.page = 0 ∧ mapWord0 t.map.maint.entry = 0#32 ∧ mapWord1 t.map.maint.entry = 0#32 ∧
      t.signals = [] ∧ t.aperture = { map := s.aperture.map, posted := [], failures := 0 } ∧
      (∀ k : SlotNo, t.slots[k] = Slot.initial) ∧
      t.port =
        { current := s.port.current.map fun c => { c with discard := .bySoftReset }
          maintenance := none, engine := none } ∧
      t.events = { records := [], overflow := false } ∧
      t.interrupt = { linkCause := false, enables := s.interrupt.enables } ∧ t.causes = 0#7 ∧
      t.host = { s.host with reply := some .done } ∧ t.pins = s.pins ∧ t.memory = s.memory ∧ t.pending = s.pending) ∧
  (∀ (v : Word) (s : State), s.hostBlocked = false → v.getLsbD 2 = true →
    exec (.registerWrite 0x004#12 v) s = exec (.softReset true) s)

/-- R26, R171: a CONTROL write without a function bit stores Inbound Enable and does nothing else. R101, R2: the
limits and the map base are written in OFFLINE alone; a limit of 0 keeps its former value; a base that changes empties
the Map Cache, and one that does not leaves it. R174, R175: the words written to the registers at 004, 00C and 010 are those
commands, and the registers read Inbound Enable, the three limits and the base at their bits. R102: link status. -/
def Obligations.InboundEnableAndStartConfigurationWrites : Prop :=
  (∀ (enable : Bool) (s : State), s.hostBlocked = false →
    exec (.inboundEnableWrite enable) s = .next
      { s with inbound := { s.inbound with enable := enable }, host := { s.host with reply := some .done } }) ∧
  (∀ (v : Word) (s : State), s.hostBlocked = false →
    (s.membership.link ≠ .offline →
      exec (.limitsWrite v) s = .next { s with host := { s.host with reply := some .done } } ∧
        exec (.mapBaseWrite v) s = .next { s with host := { s.host with reply := some .done } }) ∧
    (s.membership.link = .offline →
      ∃ c : StartConfig,
        c.responseTimeout = (if v.extractLsb' 0 8 = 0#8 then s.membership.config.responseTimeout else v.extractLsb' 0 8) ∧
        c.attemptLimit = (if v.extractLsb' 8 4 = 0#4 then s.membership.config.attemptLimit else v.extractLsb' 8 4) ∧
        c.silentThreshold =
          (if v.extractLsb' 12 3 = 0#3 then s.membership.config.silentThreshold else v.extractLsb' 12 3) ∧
        c.mapBase = s.membership.config.mapBase ∧
        exec (.limitsWrite v) s = .next
          { s with membership := { s.membership with config := c }, host := { s.host with reply := some .done } }) ∧
    (s.membership.link = .offline →
      exec (.mapBaseWrite v) s = .next
        { s with
          membership :=
            { s.membership with config := { s.membership.config with mapBase := v.extractLsb' 15 17 } }
          map :=
            { s.map with
              cache := if v.extractLsb' 15 17 = s.membership.config.mapBase then s.map.cache else [] }
          host := { s.host with reply := some .done } })) ∧
  (∀ (v : Word) (s : State), s.hostBlocked = false →
    (v.extractLsb' 0 3 = 0#3 →
      exec (.registerWrite 0x004#12 v) s = exec (.inboundEnableWrite (v.getLsbD 8)) s) ∧
    exec (.registerWrite 0x00C#12 v) s = exec (.limitsWrite v) s ∧
    exec (.registerWrite 0x010#12 v) s = exec (.mapBaseWrite v) s) ∧
  (∀ (s : State),
    s.readRegister 0x004#12 = (if s.inbound.enable then 0x100#32 else 0#32) ∧
    (s.readRegister 0x00C#12).extractLsb' 0 8 = s.membership.config.responseTimeout ∧
    (s.readRegister 0x00C#12).extractLsb' 8 4 = s.membership.config.attemptLimit ∧
    (s.readRegister 0x00C#12).extractLsb' 12 3 = s.membership.config.silentThreshold ∧
    (s.readRegister 0x010#12).extractLsb' 15 17 = s.membership.config.mapBase ∧
    ((s.readRegister 0x008#12).extractLsb' 0 3).toNat = s.membership.link.code ∧
    ((s.readRegister 0x008#12).extractLsb' 4 4).toNat = s.membership.own.val ∧
    (s.readRegister 0x008#12).extractLsb' 8 2 = s.membership.rate ∧
    ((s.readRegister 0x008#12).getLsbD 12 = true ↔ s.membership.link ≠ .offline) ∧
    (s.readRegister 0x008#12).getLsbD 13 = s.membership.leavePending)

/-! ## Interrupts and queues -/

/-- R167, R168: a 1 in bit 6 clears the LINK cause and a 0 leaves it; the mask register takes its seven enables; INT
is asserted exactly while an enabled cause is high and RESET is not low. R166, R53, R143: each level cause is high
exactly while its condition holds, and the LINK cause is as latched. R174, R175: the words written at 014 and 018 are those
commands, and the two registers read the causes and the enables. -/
def Obligations.InterruptRegistersAndCauses : Prop :=
  (∀ (v : Word) (s : State),
    (s.hostBlocked = false →
      exec (.linkCauseClear v) s = .next
          { s with
            interrupt := { s.interrupt with linkCause := s.interrupt.linkCause && !v.getLsbD 6 }
            host := { s.host with reply := some .done } } ∧
        exec (.interruptMaskWrite v) s = .next
          { s with
            interrupt := { s.interrupt with enables := v.extractLsb' 0 7 }
            host := { s.host with reply := some .done } }) ∧
    (s.int = true ↔
      s.pins.resetLow = false ∧ ∃ n : Fin 7, s.causes.getLsbD n = true ∧ s.interrupt.enables.getLsbD n = true)) ∧
  (∀ (s : State),
    (∀ k : SlotNo, s.causes.getLsbD k.val = true ↔ s.slots[k].state = .done) ∧
    (s.causes.getLsbD 4 = true ↔ s.signals ≠ []) ∧ (s.causes.getLsbD 5 = true ↔ s.events.records ≠ []) ∧
    (s.causes.getLsbD 6 = true ↔ s.interrupt.linkCause = true)) ∧
  (∀ (v : Word) (s : State),
    (s.hostBlocked = false →
      exec (.registerWrite 0x014#12 v) s = exec (.linkCauseClear v) s ∧
        exec (.registerWrite 0x018#12 v) s = exec (.interruptMaskWrite v) s) ∧
    (s.readRegister 0x014#12).toNat = s.causes.toNat ∧ (s.readRegister 0x018#12).toNat = s.interrupt.enables.toNat)

/-- R167, R102: a command that changes the link state leaves the LINK cause set, but for the two resets. -/
def Obligations.EveryLinkStateChangeSetsTheLinkCause : Prop :=
  ∀ (c : Instr) (s t : State), exec c s = .next t → t.membership.link ≠ s.membership.link →
    t.interrupt.linkCause = true ∨ (∃ b, c = .softReset b) ∨ (∃ p, c = .resetReleased p) ∨
      (∃ o v, c = .registerWrite o v ∧ o = 0x004#12 ∧ v.getLsbD 2 = true)

/-- R52: POP removes the head of the Signal Queue whatever value it carries, is ignored on an empty queue, and changes
nothing else, the Duplicate Filter included: a repeat of a popped signal is still answered ACCEPT with no effect. On an empty
queue a delivery taken first is popped, and one taken second stays at the head. Beside that rule, R174: a word written at 034
is that POP; R51: the head registers read the head's valid flag, source and value, and 0 on an empty queue. -/
def Obligations.SignalPopRemovesTheHead : Prop :=
  ∀ (v : Word) (s : State), s.hostBlocked = false →
    (s.signals = [] → exec (.signalPop v) s = .next (s.answerHost .done)) ∧
    (∀ r rs, s.signals = r :: rs →
      exec (.signalPop v) s = .next { s.answerHost .done with signals := rs } ∧
        ∀ (i : Station) (g : Tag) (b : Bool) (w : Word), s.inbound.filter[i][g] = { issue := b, state := .closed } →
          acceptDecision i g b (.signal w) { s.answerHost .done with signals := rs } =
            (.accept, { s.answerHost .done with signals := rs })) ∧
    (∀ (i : Station) (g : Tag) (b : Bool) (w : Word) (h t : State), s.signals = [] →
      (h = s.enlist i g b (.signal w) → exec (.signalPop v) h = .next t → t.signals = []) ∧
        (exec (.signalPop v) s = .next h → t = h.enlist i g b (.signal w) →
          t.signals = [{ source := i, value := w }])) ∧
    exec (.registerWrite 0x034#12 v) s = exec (.signalPop v) s ∧
    (s.signals = [] → s.readRegister 0x02C#12 = 0#32 ∧ s.readRegister 0x030#12 = 0#32) ∧
    (∀ r rs, s.signals = r :: rs →
      (s.readRegister 0x02C#12).toNat = 1 + 16 * r.source.val ∧ s.readRegister 0x030#12 = r.value)

/-- R160: a record joins the tail of a queue of fewer than 16 and is discarded whole, with the overflow flag set, by a
queue of 16; the block that reports it is not changed. -/
def Obligations.EventAppendKeepsSixteenAndSetsOverflow : Prop :=
  ∀ (s : State) (r : EventRecord),
    (s.events.records.length < 16 →
      s.addEvent r = { s with events := { records := s.events.records ++ [r], overflow := s.events.overflow } }) ∧
    (16 ≤ s.events.records.length →
      s.addEvent r = { s with events := { records := s.events.records, overflow := true } })

/-- R164: POP removes the head, the POP that empties the queue clears the overflow flag, an empty queue ignores it;
and the two orders of an append and a POP. Beside that rule, R174: a word written at 04C is that POP; R163, R175: the head
registers read 0 on an empty queue, and else the head's kind, the marks of the fields present, the count, the overflow flag, the
fields, 0 where there is none, and the address. -/
def Obligations.EventPopRemovesTheHead : Prop :=
  (∀ (v : Word) (s : State), s.hostBlocked = false →
    (s.events.records = [] → exec (.eventPop v) s = .next (s.answerHost .done)) ∧
    (∀ r, s.events.records = [r] →
      exec (.eventPop v) s = .next { s.answerHost .done with events := { records := [], overflow := false } }) ∧
    (∀ r x rs, s.events.records = r :: x :: rs →
      exec (.eventPop v) s = .next { s.answerHost .done with events := { s.events with records := x :: rs } })) ∧
  (∀ (q : EventQueue) (r : EventRecord),
    (q.records.length = 16 →
      (q.pop.append r).records = q.records.tail ++ [r] ∧ (q.append r).overflow = true ∧
        (q.append r).pop.records = q.records.tail ∧ (q.append r).pop.overflow = true) ∧
    (q.records = [] → (q.append r).pop.records = [] ∧ q.pop.append r = { q with records := [r] }) ∧
    (∀ x, q.records = [x] →
      q.pop.append r = { records := [r], overflow := false } ∧ (q.append r).pop = { q with records := [r] })) ∧
  (∀ (v : Word) (s : State),
    (s.hostBlocked = false → exec (.registerWrite 0x04C#12 v) s = exec (.eventPop v) s) ∧
    (s.events.records = [] →
      s.readRegister 0x040#12 = 0#32 ∧ s.readRegister 0x044#12 = 0#32 ∧ s.readRegister 0x048#12 = 0#32) ∧
    (∀ r rs, s.events.records = r :: rs → rs.length ≤ 15 →
      let st := s.readRegister 0x040#12
      let fields := s.readRegister 0x044#12
      (st.extractLsb' 0 4).toNat = r.kind.code ∧ (st.getLsbD 8 = true ↔ r.station ≠ none) ∧
        (st.getLsbD 9 = true ↔ r.tag ≠ none) ∧ (st.getLsbD 10 = true ↔ r.slot ≠ none) ∧
        (st.getLsbD 11 = true ↔ r.page ≠ none) ∧ (st.getLsbD 12 = true ↔ r.status ≠ none) ∧
        (st.getLsbD 13 = true ↔ ∃ a, r.address = some (.local32 a)) ∧
        (st.getLsbD 14 = true ↔ ∃ a, r.address = some (.aperture a)) ∧
        (st.extractLsb' 16 5).toNat = rs.length + 1 ∧ st.getLsbD 24 = s.events.overflow ∧
        (fields.extractLsb' 0 4).toNat = (r.station.map Fin.val).getD 0 ∧
        (fields.extractLsb' 4 4).toNat = (r.tag.map Fin.val).getD 0 ∧
        (fields.extractLsb' 8 2).toNat = (r.slot.map Fin.val).getD 0 ∧
        (fields.extractLsb' 10 5).toNat = (r.status.map Status.code).getD 0 ∧
        (fields.extractLsb' 16 12).toNat = (r.page.map Fin.val).getD 0 ∧
        (s.readRegister 0x048#12).toNat =
          match r.address with
          | none => 0
          | some (.local32 a) => a.toNat
          | some (.aperture a) => a.toNat))

/-! ## Map maintenance -/

/-- R14, R175, R176: in IDLE a write to a maintenance register takes effect field by field, in BUSY it is ignored.
R15: a maintenance command written in BUSY, and one that names no operation, appends MAINT-REFUSED and changes nothing
else. R174, R175: the words written at 060, 064, 068 and 06C are those commands, and the registers read the page, the two
entry words and the maintenance status. -/
def Obligations.MaintenanceWritesByState : Prop :=
  (∀ (r : MaintRegister) (v : Word) (s : State), s.hostBlocked = false →
    (s.map.maint.state ≠ .idle → exec (.maintRegisterWrite r v) s = .next (s.answerHost .done)) ∧
    (s.map.maint.state = .idle →
      ∃ m : Maintenance, m.state = .idle ∧ m.lastError = s.map.maint.lastError ∧
        exec (.maintRegisterWrite r v) s = .next { s.answerHost .done with map := { s.map with maint := m } } ∧
        match r with
        | .page => m.page.val = (v.extractLsb' 0 12).toNat ∧ m.entry = s.map.maint.entry
        | .entry0 =>
          m.page = s.map.maint.page ∧
            m.entry =
              { s.map.maint.entry with
                frame := v.extractLsb' 12 20, atomicEnable := v.getLsbD 1, valid := v.getLsbD 0 }
        | .entry1 =>
          m.page = s.map.maint.page ∧
            m.entry = { s.map.maint.entry with writeMask := v.extractLsb' 16 16, readMask := v.extractLsb' 0 16 })) ∧
  (∀ (c : Instr) (s : State), s.hostBlocked = false →
    ((∃ v, c = .maintCommandUndefined v) ∨
      s.map.maint.state ≠ .idle ∧ (c = .update ∨ c = .read ∨ c = .invalidateAll)) →
    exec c s = .next
      ((s.answerHost .done).addEvent
        { kind := .maintRefused, station := none, tag := none, slot := none, page := none, status := none
          address := none })) ∧
  (∀ (v : Word) (s : State), s.hostBlocked = false →
    exec (.registerWrite 0x060#12 v) s = exec (.maintRegisterWrite .page v) s ∧
    exec (.registerWrite 0x064#12 v) s = exec (.maintRegisterWrite .entry0 v) s ∧
    exec (.registerWrite 0x068#12 v) s = exec (.maintRegisterWrite .entry1 v) s ∧
    exec (.registerWrite 0x06C#12 v) s =
      (if v.extractLsb' 0 2 = 1#2 then exec .update s else if v.extractLsb' 0 2 = 2#2 then exec .read s
       else if v.extractLsb' 0 2 = 3#2 then exec .invalidateAll s else exec (.maintCommandUndefined v) s)) ∧
  (∀ (s : State),
    (s.readRegister 0x060#12).toNat = s.map.maint.page.val ∧
    (s.readRegister 0x064#12).extractLsb' 12 20 = s.map.maint.entry.frame ∧
    (s.readRegister 0x064#12).getLsbD 1 = s.map.maint.entry.atomicEnable ∧
    (s.readRegister 0x064#12).getLsbD 0 = s.map.maint.entry.valid ∧
    (s.readRegister 0x068#12).extractLsb' 16 16 = s.map.maint.entry.writeMask ∧
    (s.readRegister 0x068#12).extractLsb' 0 16 = s.map.maint.entry.readMask ∧
    ((s.readRegister 0x070#12).getLsbD 0 = true ↔ s.map.maint.state ≠ .idle) ∧
    (s.readRegister 0x070#12).getLsbD 1 = s.map.maint.lastError)

/-- R16, R17, R149, R150: UPDATE and READ taken in IDLE enter BUSY and ask the Memory Port for a map write of the
entry registers, or a map read, at base + 8 × p: at once on an idle port, else in the MAINTENANCE place. R150: the
request that starts when a cycle ends: MAINTENANCE first, else ENGINE, else none, a map cycle at the address the base
in force gives (R2). R150: a request of the engine starts at once on an idle port and else waits in the ENGINE place. -/
def Obligations.MaintenanceAsksThePortThatServesItFirst : Prop :=
  (∀ (s : State), s.hostBlocked = false → s.map.maint.state = .idle →
    ∃ a : Word, a.toNat = s.membership.config.mapBase.toNat * 32768 + 8 * s.map.maint.page.val ∧
      let write : Request := { kind := .mapWrite s.map.maint.page s.map.maint.entry, addr := a }
      let look : Request := { kind := .mapRead s.map.maint.page, addr := a }
      let cycle (q : Request) : Cycle := { requester := .maintenance, request := q, discard := .clear, old := none }
      let busy (st : MaintState) : WindowMap := { s.map with maint := { s.map.maint with state := st } }
      (s.port.current = none →
        exec .update s = .next
            { s.answerHost .done with map := busy .busyUpdate, port := { s.port with current := some (cycle write) } } ∧
          exec .read s = .next
            { s.answerHost .done with map := busy .busyRead, port := { s.port with current := some (cycle look) } }) ∧
      (s.port.current ≠ none →
        exec .update s = .next
            { s.answerHost .done with map := busy .busyUpdate, port := { s.port with maintenance := some write } } ∧
          exec .read s = .next
            { s.answerHost .done with map := busy .busyRead, port := { s.port with maintenance := some look } })) ∧
  (∀ (s : State),
    (∀ q, s.port.maintenance = some q →
      s.portNext =
        { s with
          port :=
            { s.port with
              current := some (q.start .maintenance s.membership.config.mapBase), maintenance := none } }) ∧
    (∀ q, s.port.maintenance = none → s.port.engine = some q →
      s.portNext =
        { s with
          port := { s.port with current := some (q.start .engine s.membership.config.mapBase), engine := none } }) ∧
    (s.port.maintenance = none → s.port.engine = none →
      s.portNext = { s with port := { s.port with current := none } }) ∧
    (∀ (q : Request) (r : Requester) (b : BitVec 17),
      (q.start r b).requester = r ∧ (q.start r b).discard = .clear ∧ (q.start r b).old = none ∧
      (q.start r b).request.kind = q.kind ∧
      (∀ p, q.kind = .mapRead p → (q.start r b).request.addr.toNat = b.toNat * 32768 + 8 * p.val) ∧
      (∀ p e, q.kind = .mapWrite p e → (q.start r b).request.addr.toNat = b.toNat * 32768 + 8 * p.val) ∧
      (q.kind.isData = true → (q.start r b).request.addr = q.addr)) ∧
    (∀ (q : Request),
      (s.port.current = none →
        State.portRequest .engine q s =
          { s with port := { s.port with current := some (q.start .engine s.membership.config.mapBase) } }) ∧
      (s.port.current ≠ none → State.portRequest .engine q s = { s with port := { s.port with engine := some q } })) ∧
    (∀ (b : BitVec 17) (p : Page),
      (mapReadRequest b p).kind = .mapRead p ∧ (mapReadRequest b p).addr.toNat = b.toNat * 32768 + 8 * p.val))

/-- R18, R12: INVALIDATE-ALL in IDLE empties the Map Cache, marks the pending fill void and sets the last result OK.
-/
def Obligations.InvalidateAllEmptiesTheMapCache : Prop :=
  ∀ (s : State), s.hostBlocked = false → s.map.maint.state = .idle →
    exec .invalidateAll s = .next
      { s.answerHost .done with
        map :=
          { cache := []
            fill := s.map.fill.map fun f => { page := f.page, void := true }
            maint := { s.map.maint with lastError := false } } }

/-- R16, R12, R154: the end of an UPDATE's map write. OK: both words are in memory, the cached copy of the page goes,
a pending fill of the page is void, IDLE and OK. An error: IDLE and ERROR, and MAINT-ERROR with the address and the
outcome; cache and fill stay. Then the port starts what waits. R17, R154: the end of a maintenance READ's map read.
OK: the entry registers are loaded, IDLE and OK. An error: they are kept, IDLE and ERROR, and MAINT-ERROR. Map Cache
and pending fill stay. -/
def Obligations.MaintenanceCycleEnds : Prop :=
  (∀ (ts : List Transfer) (c : Cycle) (p : Page) (e : MapEntry) (s : State), s.pins.resetLow = false →
    s.port.current = some c → c.requester = .maintenance → c.discard = .clear → c.request.kind = .mapWrite p e →
    ∃ (r : BusReply) (m : List Host.Cell),
      writeTransfers
          [{ mask := Lanes.all, data := mapWord0 e }, { mask := Lanes.all, data := mapWord1 e }] c.request.addr ts
          s.memory = (r, m) ∧
      (r = .ok →
        exec (.mapWriteEnd ts) s = .next
          ({ s with
            memory := m
            map :=
              { cache := s.map.cache.filter fun d => decide (d.page ≠ p)
                fill := s.map.fill.map fun f => if f.page = p then { page := f.page, void := true } else f
                maint := { s.map.maint with state := .idle, lastError := false } } } : State).portNext) ∧
      (r ≠ .ok →
        exec (.mapWriteEnd ts) s = .next
          (({ s with
              memory := m
              map := { s.map with maint := { s.map.maint with state := .idle, lastError := true } } } : State).addEvent
            { kind := .maintError, station := none, tag := none, slot := none, page := none
              status := some (if r = .dataError then .dataError else .noReply)
              address := some (.local32 c.request.addr) }).portNext)) ∧
  (∀ (ts : List Transfer) (c : Cycle) (p : Page) (s : State), s.pins.resetLow = false →
    s.port.current = some c → c.requester = .maintenance → c.discard = .clear → c.request.kind = .mapRead p →
    let r := readTransfers 2 c.request.addr ts s.memory
    (r.outcome = .ok →
      exec (.maintMapReadEnd ts) s = .next
        ({ s with
          memory := r.memory
          map :=
            { s.map with
              maint := { s.map.maint with state := .idle, lastError := false, entry := mapEntryOf r.words } } } :
          State).portNext) ∧
    (r.outcome ≠ .ok →
      exec (.maintMapReadEnd ts) s = .next
        (({ s with
            memory := r.memory
            map := { s.map with maint := { s.map.maint with state := .idle, lastError := true } } } : State).addEvent
          { kind := .maintError, station := none, tag := none, slot := none, page := none
            status := some (if r.outcome = .dataError then .dataError else .noReply)
            address := some (.local32 c.request.addr) }).portNext))

/-! ## Command slots -/

/-- R138, R136, R175: a parameter or buffer write is ignored in ISSUED, and otherwise stores its field and nothing
else. R139, R144: a command that names none of the three, and GO and RELEASE in ISSUED, append COMMAND-REFUSED and
change nothing else; RELEASE in DONE makes the slot IDLE; RELEASE in IDLE and CANCEL outside ISSUED are ignored. R174, R175:
the word writes at the offsets of a slot's registers are those commands, those at its read-only and unassigned offsets are
ignored, and the registers read the slot's fields, its state, cancel-pending, status and result. -/
def Obligations.SlotWritesAndCommandsByState : Prop :=
  (∀ (k : SlotNo) (r : SlotRegister) (v : Word) (s : State), s.hostBlocked = false →
    (s.slots[k].state.issued = true → exec (.slotParameterWrite k r v) s = .next (s.answerHost .done)) ∧
    (s.slots[k].state.issued = false →
      ∃ sl : Slot,
        exec (.slotParameterWrite k r v) s = .next { s.answerHost .done with slots := s.slots.set k sl } ∧
        match r with
        | .kind => sl = { s.slots[k] with kind := v.extractLsb' 0 4 }
        | .target => ∃ i : Station, i.val = (v.extractLsb' 0 4).toNat ∧ sl = { s.slots[k] with target := i }
        | .page => sl = { s.slots[k] with page := v.extractLsb' 0 16 }
        | .offset => sl = { s.slots[k] with offset := v.extractLsb' 0 16 }
        | .count => sl = { s.slots[k] with count := v.extractLsb' 0 8 }
        | .operandA => sl = { s.slots[k] with operandA := v }
        | .operandB => sl = { s.slots[k] with operandB := v }
        | .buffer i => sl = { s.slots[k] with buffer := s.slots[k].buffer.set i v })) ∧
  (∀ (k : SlotNo) (v : Word) (s : State), s.hostBlocked = false →
    let refused :=
      (s.answerHost .done).addEvent
        { kind := .commandRefused, station := none, tag := none, slot := some k, page := none, status := none
          address := none }
    exec (.slotCommandUndefined k v) s = .next refused ∧
    (s.slots[k].state.issued = true → exec (.go k) s = .next refused ∧ exec (.release k) s = .next refused) ∧
    (s.slots[k].state = .done →
      exec (.release k) s = .next { s.answerHost .done with slots := s.slots.set k { s.slots[k] with state := .idle } }) ∧
    (s.slots[k].state = .idle → exec (.release k) s = .next (s.answerHost .done)) ∧
    (s.slots[k].state.issued = false → exec (.cancel k) s = .next (s.answerHost .done))) ∧
  (∀ (k : SlotNo) (v : Word) (s : State), s.hostBlocked = false →
    let at_ (offset : Nat) : BitVec 12 := BitVec.ofNat 12 (0x200 + 0x80 * k.val + offset)
    (∀ x ∈ [(0x00, SlotRegister.kind), (0x04, .target), (0x08, .page), (0x0C, .offset), (0x10, .count),
        (0x14, .operandA), (0x18, .operandB)],
      exec (.registerWrite (at_ x.1) v) s = exec (.slotParameterWrite k x.2 v) s) ∧
    (∀ i : Fin 16, exec (.registerWrite (at_ (0x40 + 4 * i.val)) v) s = exec (.slotParameterWrite k (.buffer i) v) s) ∧
    exec (.registerWrite (at_ 0x1C) v) s =
      (if v = 1#32 then exec (.go k) s else if v = 2#32 then exec (.release k) s
       else if v = 3#32 then exec (.cancel k) s else exec (.slotCommandUndefined k v) s) ∧
    (∀ offset ∈ [0x20, 0x24, 0x28, 0x2C, 0x30, 0x34, 0x38, 0x3C],
      exec (.registerWrite (at_ offset) v) s = .next (s.answerHost .done))) ∧
  (∀ (k : SlotNo) (s : State),
    let sl := s.slots[k]
    let word (offset : Nat) : Word := s.readRegister (BitVec.ofNat 12 (0x200 + 0x80 * k.val + offset))
    (word 0x00).toNat = sl.kind.toNat ∧ (word 0x04).toNat = sl.target.val ∧ (word 0x08).toNat = sl.page.toNat ∧
      (word 0x0C).toNat = sl.offset.toNat ∧ (word 0x10).toNat = sl.count.toNat ∧ word 0x14 = sl.operandA ∧
      word 0x18 = sl.operandB ∧ word 0x1C = 0#32 ∧ word 0x24 = sl.result ∧
      (∀ i : Fin 16, word (0x40 + 4 * i.val) = sl.buffer[i]) ∧
      ((word 0x20).extractLsb' 0 2 = 0#2 ↔ sl.state = .idle) ∧
      ((word 0x20).extractLsb' 0 2 = 1#2 ↔ sl.state.issued = true) ∧
      ((word 0x20).extractLsb' 0 2 = 2#2 ↔ sl.state = .done) ∧ (word 0x20).getLsbD 4 = sl.cancelPending ∧
      ((word 0x20).extractLsb' 8 5).toNat = (sl.status.map Status.code).getD 0)

/-- R140: a GO whose kind, word count, page or offset is out of range makes the slot DONE with BAD-COMMAND; one that
passes outside ONLINE makes it DONE with LINK-DOWN; outputs are cleared, and nothing else changes. R140, R141, R130: a
GO that passes both checks in ONLINE notes the posted entries for its target; while one of them stands the slot is
ISSUED in the fence phase and nothing else changes; where none stands the slot is presented at once. -/
def Obligations.GoChecksAndThenWaitsForNotedEntries : Prop :=
  (∀ (k : SlotNo) (s : State), s.hostBlocked = false → s.slots[k].state.issued = false →
    let sl := s.slots[k]
    let kind := sl.kind.toNat
    let good : Prop :=
      (1 ≤ kind ∧ kind ≤ 7) ∧ (kind ≤ 2 → 1 ≤ sl.count.toNat ∧ sl.count.toNat ≤ 16) ∧
        (kind ≤ 5 → sl.page.toNat ≤ 4095 ∧ sl.offset.toNat ≤ 1023)
    let ended (st : Status) : State :=
      { s.answerHost .done with
        slots := s.slots.set k { sl with state := .done, cancelPending := false, status := some st, result := 0#32 } }
    (¬good → exec (.go k) s = .next (ended .badCommand)) ∧
    (good → s.membership.link ≠ .online → exec (.go k) s = .next (ended .linkDown))) ∧
  (∀ (k : SlotNo) (s : State), s.hostBlocked = false → s.slots[k].state.issued = false → s.membership.link = .online →
    1 ≤ s.slots[k].kind.toNat → s.slots[k].kind.toNat ≤ 7 →
    (s.slots[k].kind.toNat ≤ 2 → 1 ≤ s.slots[k].count.toNat ∧ s.slots[k].count.toNat ≤ 16) →
    (s.slots[k].kind.toNat ≤ 5 → s.slots[k].page.toNat ≤ 4095 ∧ s.slots[k].offset.toNat ≤ 1023) →
    let noted := (s.aperture.posted.filter fun e => decide (e.target = s.slots[k].target)).map (·.place)
    let waiting : State :=
      { s.answerHost .done with
        slots :=
          s.slots.set k
            { s.slots[k] with state := .fence noted, cancelPending := false, status := none, result := 0#32 } }
    ((∃ e ∈ s.aperture.posted, e.target = s.slots[k].target) → exec (.go k) s = .next waiting) ∧
    ((∀ e ∈ s.aperture.posted, e.target ≠ s.slots[k].target) →
      noted = [] ∧ exec (.go k) s = exec (.slotPresented k) waiting))

/-- R145, R146, R74: CANCEL in the fence phase ends the slot CANCELLED; with its entry QUEUED or BACKOFF it ends entry
and slot at once, with what that end brings about; with its entry ON-AIR or WAITING it marks both and ends neither. -/
def Obligations.CancelEndsOrMarks : Prop :=
  ∀ (k : SlotNo) (s : State), s.hostBlocked = false →
    let cancelled : Slot := { s.slots[k] with state := .done, status := some .cancelled, cancelPending := false }
    (∀ noted, s.slots[k].state = .fence noted →
      exec (.cancel k) s = .next { s.answerHost .done with slots := s.slots.set k cancelled }) ∧
    (∀ (g : Tag) (e : TransEntry), s.slots[k].state = .entry → s.outbound.table[g] = some e → e.origin = .slot k →
      (∀ h f, s.outbound.table[h] = some f → f.origin = .slot k → h = g) →
      (e.state = .queued ∨ (∃ n, e.state = .backoff n) →
        exec (.cancel k) s = .next
          ({ s.answerHost .done with
            slots := s.slots.set k cancelled
            outbound :=
              { s.outbound with
                table := s.outbound.table.set g none
                queued := s.outbound.queued.filter fun h => decide (h ≠ g) } } : State).followThrough) ∧
      (e.state = .onAir ∨ (∃ n, e.state = .waiting n) →
        exec (.cancel k) s = .next
          { s.answerHost .done with
            slots := s.slots.set k { s.slots[k] with cancelPending := true }
            outbound := { s.outbound with table := s.outbound.table.set g (some { e with cancel := true }) } }))

/-- R141, R142, R58 to R61: a slot in the fence phase with nothing left to wait for is presented. Outside ONLINE it
ends LINK-DOWN; a SILENT or DEPARTED target ends it unless it is a PROBE; else it takes the lowest free tag, whose
issue bit flips, and a medium entry is QUEUED last. R35, R71, R72: an entry for the own station is ON-AIR and presented to the
own Inbound Unit at once, whose answer is one attempt. R142: the transaction that each slot kind becomes, where the parameters
that R140 checks for that kind are in range: page and offset for kinds 1 to 5, the count for READ and WRITE alone, none for
SIGNAL and PROBE. -/
def Obligations.SlotPresentedIsCheckedAndAllocated : Prop :=
  (∀ (k : SlotNo) (body : TransBody) (s : State), s.pins.resetLow = false → s.slots[k].state = .fence [] →
    s.slots[k].transaction = some body →
    let target := s.slots[k].target
    let ended (st : Status) : State :=
      { s with
        slots := s.slots.set k { s.slots[k] with state := .done, status := some st, cancelPending := false } }
    (s.membership.link ≠ .online → exec (.slotPresented k) s = .next (ended .linkDown)) ∧
    (s.membership.link = .online → body ≠ .probe → s.membership.roster[target].state = .silent →
      exec (.slotPresented k) s = .next (ended .stationSilent)) ∧
    (s.membership.link = .online → body ≠ .probe → s.membership.roster[target].state = .departed →
      exec (.slotPresented k) s = .next (ended .stationDeparted)) ∧
    (s.membership.link = .online →
      (body = .probe ∨ s.membership.roster[target].state ≠ .silent ∧ s.membership.roster[target].state ≠ .departed) →
      ∀ g : Tag, s.lowestFree g →
        let taken : State := { s with slots := s.slots.set k { s.slots[k] with state := .entry } }
        (target ≠ s.membership.own →
          exec (.slotPresented k) s = .next
            (taken.withNewEntry g (.slot k) target body .queued (s.outbound.queued ++ [g]))) ∧
        (target = s.membership.own →
          let h := taken.withNewEntry g (.slot k) target body .onAir s.outbound.queued
          (body = .probe → exec (.slotPresented k) s = .next (h.afterAttempt g .accept)) ∧
          (∀ e o, h.outbound.table[g] = some e → h.loopbackOffer e = some o →
            let d := acceptDecision target g (!s.outbound.issueBits[g]) o h
            exec (.slotPresented k) s = .next (d.2.afterAttempt g d.1))))) ∧
  (∀ (sl : Slot),
    (sl.page.toNat ≤ 4095 → sl.offset.toNat ≤ 1023 →
      ∃ (p : Page) (o : Offset), p.val = sl.page.toNat ∧ o.val = sl.offset.toNat ∧
        (1 ≤ sl.count.toNat → sl.count.toNat ≤ 16 →
          (sl.kind.toNat = 1 → sl.transaction = some (.read p o sl.count.toNat)) ∧
          (sl.kind.toNat = 2 → sl.transaction = some (.write p o sl.count.toNat))) ∧
        (sl.kind.toNat = 3 → sl.transaction = some (.atomic p o (.fetchAdd sl.operandA))) ∧
        (sl.kind.toNat = 4 → sl.transaction = some (.atomic p o (.swap sl.operandA))) ∧
        (sl.kind.toNat = 5 → sl.transaction = some (.atomic p o (.compareSwap sl.operandA sl.operandB)))) ∧
    (sl.kind.toNat = 6 → sl.transaction = some (.signal sl.operandA)) ∧
    (sl.kind.toNat = 7 → sl.transaction = some .probe) ∧
    (sl.kind.toNat = 0 ∨ 8 ≤ sl.kind.toNat → sl.transaction = none))

/-! ## The aperture -/

/-- R119: the lanes of an access by its size and the byte its offset names; the other combinations are misaligned.
R122, R123: the word of a store holds its bytes in its lanes and 0 elsewhere; a store over a word joins the masks and
replaces the bytes of its lanes alone. -/
def Obligations.ApertureLanesAndStoredWords : Prop :=
  (∀ (a : BitVec 18),
    accessLanes .byte (apertureByte a) = some (1#4 <<< (a.toNat % 4)) ∧
    accessLanes .halfword (apertureByte a) =
      (if a.toNat % 4 = 0 then some 0b0011#4 else if a.toNat % 4 = 2 then some 0b1100#4 else none) ∧
    accessLanes .word (apertureByte a) = (if a.toNat % 4 = 0 then some 0b1111#4 else none) ∧
    (aperturePage a).val = (a.extractLsb' 12 6).toNat ∧ (apertureWord a).val = (a.extractLsb' 2 10).toNat) ∧
  (∀ (l : Lanes) (v : Word) (old new : MaskedWord) (n : Fin 4),
    (maskedWord l v).mask = l ∧
    laneByte (maskedWord l v).data n = (if l.getLsbD n then laneByte v n else 0#8) ∧
    (overlay old new).mask = old.mask ||| new.mask ∧
    laneByte (overlay old new).data n = (if new.mask.getLsbD n then laneByte new.data n else laneByte old.data n))

/-- R119, R121: a misaligned access ends with a bus error and changes nothing; an aligned one outside ONLINE, or
through an entry with VALID 0, ends with a bus error and APERTURE-REFUSED with LINK-DOWN or NO-TRANSLATION. -/
def Obligations.MisalignedOrRefusedAccessEndsWithABusError : Prop :=
  ∀ (a : BitVec 18) (size : AccessSize) (v : Word) (s : State), s.hostBlocked = false →
    let refused (st : Status) : State :=
      (s.answerHost .busError).addEvent
        { kind := .apertureRefused, station := none, tag := none, slot := none, page := none, status := some st
          address := some (.aperture a) }
    (accessLanes size (apertureByte a) = none →
      exec (.apertureStore a size v) s = .next (s.answerHost .busError) ∧
        exec (.apertureLoad a size) s = .next (s.answerHost .busError)) ∧
    (accessLanes size (apertureByte a) ≠ none → s.membership.link ≠ .online →
      exec (.apertureStore a size v) s = .next (refused .linkDown) ∧
        exec (.apertureLoad a size) s = .next (refused .linkDown)) ∧
    (accessLanes size (apertureByte a) ≠ none → s.membership.link = .online →
      (s.aperture.map[aperturePage a]).valid = false →
      exec (.apertureStore a size v) s = .next (refused .noTranslation) ∧
        exec (.apertureLoad a size) s = .next (refused .noTranslation))

/-- R123, R124, R125: a translated store merges into the newest entry by overlaying its last word or extending it by
one; else it is appended, OPEN and waiting while the buffer holds another entry for its target; a full buffer holds it
on the host bus. With no other entry for its target it is presented at the moment it is appended: TAKEN with the lowest free
tag, QUEUED for another station and presented to the own Inbound Unit for the own one, or ended by a SILENT or DEPARTED target.
R124: a held store is placed in ONLINE, once there is room, as a new store is; at CONFLICT it ends with a bus error and
APERTURE-REFUSED with LINK-DOWN. -/
def Obligations.StoresMergeAppendOrAreHeld : Prop :=
  (∀ (a : BitVec 18) (size : AccessSize) (v : Word) (l : Lanes) (m : ApertureEntry) (s : State), s.hostBlocked = false →
    s.membership.link = .online → accessLanes size (apertureByte a) = some l → s.aperture.map[aperturePage a] = m →
    m.valid = true →
    let w := maskedWord l v
    let merges (e : PostedEntry) : Prop :=
      e.taken = false ∧ e.target = m.target ∧ e.page = m.page ∧
        ((apertureWord a).val + 1 = e.first.val + e.words.length ∨
          (apertureWord a).val = e.first.val + e.words.length ∧ e.words.length < 8)
    (∀ (pre : List PostedEntry) (e : PostedEntry) (ws : List MaskedWord) (u : MaskedWord),
      s.aperture.posted = pre ++ [e] → merges e → e.words = ws ++ [u] →
      (apertureWord a).val + 1 = e.first.val + e.words.length →
      exec (.apertureStore a size v) s = .next
        { s with
          aperture := { s.aperture with posted := pre ++ [{ e with words := ws ++ [overlay u w] }] }
          host := { s.host with reply := some .done } }) ∧
    (∀ (pre : List PostedEntry) (e : PostedEntry), s.aperture.posted = pre ++ [e] → merges e →
      (apertureWord a).val = e.first.val + e.words.length →
      exec (.apertureStore a size v) s = .next
        { s with
          aperture := { s.aperture with posted := pre ++ [{ e with words := e.words ++ [w] }] }
          host := { s.host with reply := some .done } }) ∧
    ((∀ pre e, s.aperture.posted = pre ++ [e] → ¬merges e) → s.aperture.posted.length < 8 →
      (∃ e ∈ s.aperture.posted, e.target = m.target) →
      ∃ p : Place, (∀ e ∈ s.aperture.posted, e.place ≠ p) ∧
        exec (.apertureStore a size v) s = .next
          { s with
            aperture :=
              { s.aperture with
                posted :=
                  s.aperture.posted ++
                    [{ place := p, target := m.target, page := m.page, first := apertureWord a, words := [w]
                       taken := false }] }
            host := { s.host with reply := some .done } }) ∧
    ((∀ pre e, s.aperture.posted = pre ++ [e] → ¬merges e) → s.aperture.posted.length < 8 →
      (∀ e ∈ s.aperture.posted, e.target ≠ m.target) →
      ∃ p : Place, (∀ e ∈ s.aperture.posted, e.place ≠ p) ∧
        let e : PostedEntry :=
          { place := p, target := m.target, page := m.page, first := apertureWord a, words := [w], taken := false }
        let holding (x : PostedEntry) : State :=
          { s with
            aperture := { s.aperture with posted := s.aperture.posted ++ [x] }
            host := { s.host with reply := some .done } }
        let roster := s.membership.roster[m.target].state
        (roster = .silent →
          exec (.apertureStore a size v) s = .next ((holding e).deliver (.posted p) .stationSilent [])) ∧
        (roster = .departed →
          exec (.apertureStore a size v) s = .next ((holding e).deliver (.posted p) .stationDeparted [])) ∧
        (roster ≠ .silent → roster ≠ .departed → ∀ g : Tag, s.lowestFree g →
          let body : TransBody := .write m.page (apertureWord a) 1
          let taken := holding { e with taken := true }
          (m.target ≠ s.membership.own →
            exec (.apertureStore a size v) s = .next
              (taken.withNewEntry g (.posted p) m.target body .queued (s.outbound.queued ++ [g]))) ∧
          (m.target = s.membership.own →
            let h := taken.withNewEntry g (.posted p) m.target body .onAir s.outbound.queued
            let d :=
              acceptDecision m.target g (!s.outbound.issueBits[g]) (.request m.page (apertureWord a) (.write [w])) h
            exec (.apertureStore a size v) s = .next (d.2.afterAttempt g d.1)))) ∧
    ((∀ pre e, s.aperture.posted = pre ++ [e] → ¬merges e) → 8 ≤ s.aperture.posted.length →
      exec (.apertureStore a size v) s = .next
        { s with
          host :=
            { s.host with
              held :=
                some (.store
                  { target := m.target, page := m.page, offset := apertureWord a, word := w, address := a }) } })) ∧
  (∀ (h : HeldStore) (s : State), s.pins.resetLow = false → s.host.held = some (.store h) →
    (s.membership.link = .conflict →
      exec .heldStorePlaced s = .next
        (({ s with host := { s.host with held := none, reply := some .busError } } : State).addEvent
          { kind := .apertureRefused, station := none, tag := none, slot := none, page := none
            status := some .linkDown, address := some (.aperture h.address) })) ∧
    (s.membership.link = .online → s.aperture.posted.length < 8 →
      s.endHeldStore = ({ s with host := { s.host with held := none } } : State).placeStore h ∧
        exec .heldStorePlaced s = .next s.endHeldStore)) ∧
  (∀ (a : BitVec 18) (size : AccessSize) (v : Word) (l : Lanes) (m : ApertureEntry) (s : State), s.hostBlocked = false →
    s.membership.link = .online → accessLanes size (apertureByte a) = some l → s.aperture.map[aperturePage a] = m →
    m.valid = true →
    exec (.apertureStore a size v) s = .next
      (s.placeStore
        { target := m.target, page := m.page, offset := apertureWord a, word := maskedWord l v, address := a }))

/-- R125, R126, R59 to R61, R127: an eligible posted entry is presented in ONLINE and DRAINING: a SILENT or DEPARTED
target ends it with a failure and what that removal brings about; else it becomes TAKEN and takes the lowest free tag, QUEUED
last if its target is another station. R71: for the own station it is ON-AIR and presented to the own Inbound Unit at once,
whose answer is one attempt. An entry that is not eligible waits. R135: the aperture status counts the entries and the TAKEN
ones. -/
def Obligations.PostedEntryPresentedBecomesTakenOrFails : Prop :=
  (∀ (pre post : List PostedEntry) (e : PostedEntry) (s : State), s.pins.resetLow = false →
    s.membership.link = .online ∨ s.membership.link = .draining →
    s.aperture.posted = pre ++ e :: post → eligibleAt pre e post → (∀ f ∈ pre ++ post, f.place ≠ e.place) →
    let ended (st : Status) : State := s.deliver (.posted e.place) st []
    let roster := s.membership.roster[e.target].state
    (roster = .silent →
      s.presentPosted e = ended .stationSilent ∧
        exec (.postedEntryPresented e.place) s = .next (ended .stationSilent).followThrough) ∧
    (roster = .departed →
      s.presentPosted e = ended .stationDeparted ∧
        exec (.postedEntryPresented e.place) s = .next (ended .stationDeparted).followThrough) ∧
    (roster ≠ .silent → roster ≠ .departed → ∀ g : Tag, s.lowestFree g →
      let body : TransBody := .write e.page e.first e.words.length
      let taken : State := { s with aperture := { s.aperture with posted := pre ++ { e with taken := true } :: post } }
      (e.target ≠ s.membership.own →
        let queued := taken.withNewEntry g (.posted e.place) e.target body .queued (s.outbound.queued ++ [g])
        s.presentPosted e = queued ∧ exec (.postedEntryPresented e.place) s = .next queued) ∧
      (e.target = s.membership.own →
        let h := taken.withNewEntry g (.posted e.place) e.target body .onAir s.outbound.queued
        let d :=
          acceptDecision e.target g (!s.outbound.issueBits[g]) (.request e.page e.first (.write e.words)) h
        let t := d.2.afterAttempt g d.1
        s.presentPosted e = t ∧
          ((∃ f ∈ t.aperture.posted, f.place = e.place) → exec (.postedEntryPresented e.place) s = .next t) ∧
          ((∀ f ∈ t.aperture.posted, f.place ≠ e.place) →
            exec (.postedEntryPresented e.place) s = .next t.followThrough)))) ∧
  (∀ (pre post : List PostedEntry) (e : PostedEntry) (s : State), s.aperture.posted = pre ++ e :: post →
    ¬eligibleAt pre e post → (∀ f ∈ pre ++ post, f.place ≠ e.place) →
    exec (.postedEntryPresented e.place) s = .next s) ∧
  (∀ (s : State), s.aperture.posted.length ≤ 8 →
    ((s.readRegister 0x024#12).extractLsb' 0 4).toNat = s.aperture.posted.length ∧
      ((s.readRegister 0x024#12).extractLsb' 8 4).toNat = (s.aperture.posted.filter fun e => e.taken).length)

/-- R128, R129: a translated load is held with the posted entries for its target as its noted set, and waits while the
set is not empty; with none noted it is presented at once. R128, R129, R59 to R61: a held load whose noted entries have all left
is presented as a READ of one word: outside ONLINE, and with a SILENT or DEPARTED target, it ends with a bus error and a
record, else it takes the lowest free tag and is QUEUED if its target is another station. R71: for the own station it is ON-AIR
and presented to the own Inbound Unit at once, whose answer is one attempt. -/
def Obligations.LoadsAreHeldAndPresented : Prop :=
  (∀ (a : BitVec 18) (size : AccessSize) (l : Lanes) (m : ApertureEntry) (s : State), s.hostBlocked = false →
    s.membership.link = .online → accessLanes size (apertureByte a) = some l → s.aperture.map[aperturePage a] = m →
    m.valid = true →
    let noted := (s.aperture.posted.filter fun e => decide (e.target = m.target)).map (·.place)
    let holding : State :=
      { s with
        host :=
          { s.host with
            held :=
              some (.load
                { target := m.target, page := m.page, offset := apertureWord a, lanes := l, address := a
                  noted := noted, presented := false }) } }
    ((∃ e ∈ s.aperture.posted, e.target = m.target) → exec (.apertureLoad a size) s = .next holding) ∧
    ((∀ e ∈ s.aperture.posted, e.target ≠ m.target) →
      noted = [] ∧ exec (.apertureLoad a size) s = exec .loadPresented holding)) ∧
  (∀ (l : HeldLoad) (s : State), s.pins.resetLow = false → s.host.held = some (.load l) → l.noted = [] →
    l.presented = false →
    let ended (st : Status) : State := s.deliver .apertureRead st []
    let roster := s.membership.roster[l.target].state
    (s.membership.link ≠ .online → exec .loadPresented s = .next (ended .linkDown)) ∧
    (s.membership.link = .online → roster = .silent → exec .loadPresented s = .next (ended .stationSilent)) ∧
    (s.membership.link = .online → roster = .departed → exec .loadPresented s = .next (ended .stationDeparted)) ∧
    (s.membership.link = .online → roster ≠ .silent → roster ≠ .departed → ∀ g : Tag, s.lowestFree g →
      let body : TransBody := .read l.page l.offset 1
      let taken : State := { s with host := { s.host with held := some (.load { l with presented := true }) } }
      (l.target ≠ s.membership.own →
        exec .loadPresented s = .next
          (taken.withNewEntry g .apertureRead l.target body .queued (s.outbound.queued ++ [g]))) ∧
      (l.target = s.membership.own →
        let h := taken.withNewEntry g .apertureRead l.target body .onAir s.outbound.queued
        let d := acceptDecision l.target g (!s.outbound.issueBits[g]) (.request l.page l.offset (.read 1)) h
        exec .loadPresented s = .next (d.2.afterAttempt g d.1))))

/-- R132: a read of the fence register on an empty buffer returns the failure count and sets it to 0; on another it is
held, and completes in the same way once the buffer is empty. A write to it is ignored. -/
def Obligations.FenceReadReturnsAndClearsTheCount : Prop :=
  ∀ (s : State),
    (s.hostBlocked = false → s.aperture.posted = [] →
      exec .fenceRead s = .next
        { s with
          aperture := { s.aperture with failures := 0 }
          host := { s.host with held := none, reply := some (.data (BitVec.ofNat 32 s.aperture.failures)) } }) ∧
    (s.hostBlocked = false → s.aperture.posted ≠ [] →
      exec .fenceRead s = .next { s with host := { s.host with held := some .fence } }) ∧
    (s.pins.resetLow = false → s.host.held = some .fence → s.aperture.posted = [] →
      exec .fenceReadComplete s = .next
        { s with
          aperture := { s.aperture with failures := 0 }
          host := { s.host with held := none, reply := some (.data (BitVec.ofNat 32 s.aperture.failures)) } }) ∧
    (s.pins.resetLow = false → s.aperture.posted ≠ [] → exec .fenceReadComplete s = .next s) ∧
    (∀ v : Word, s.hostBlocked = false → exec (.registerWrite 0x028#12 v) s = .next (s.answerHost .done))

/-! ## Attempts and ends of transactions -/

/-- R73, R75: an entry ends once: it is freed, its tag's issue bit is kept, it leaves the queued order, and its one
status, CANCELLED where it is marked, goes to its origin. R73, R143, R127, R129: what the one status of a transaction
does at its origin: a slot is DONE with it and its results, a posted entry leaves the buffer and the noted sets and,
unless OK, counts a failure and records it, a held load ends with the word or with a bus error and a record. R127, R130: a
removal takes the entry out of the buffer and out of every noted set, and brings about, in the same happening and until none is
due: the presentation of the entry that has become eligible, the placing of the held store, the presentation of the held load or
of a slot, the end of a held fence read; then the end of the drain. That they go one by one in this order is the model's choice
(log entry 1). R78: the outbound status counts the entries and those in WAITING. -/
def Obligations.AnEndDeliversOneStatusToItsOrigin : Prop :=
  (∀ (g : Tag) (e : TransEntry) (st : Status) (data : List Word) (s : State), s.outbound.table[g] = some e →
    s.endEntry g st data =
      State.deliver e.origin (if e.cancel then .cancelled else st) data
        { s with
          outbound :=
            { s.outbound with
              table := s.outbound.table.set g none
              queued := s.outbound.queued.filter fun h => decide (h ≠ g) } }) ∧
  (∀ (st : Status) (data : List Word) (s : State),
    (∀ k : SlotNo, ∃ sl : Slot, s.deliver (.slot k) st data = { s with slots := s.slots.set k sl } ∧
      sl.state = .done ∧ sl.status = some st ∧ sl.cancelPending = false ∧ sl.kind = s.slots[k].kind ∧
      sl.target = s.slots[k].target ∧ sl.page = s.slots[k].page ∧ sl.offset = s.slots[k].offset ∧
      sl.count = s.slots[k].count ∧ sl.operandA = s.slots[k].operandA ∧ sl.operandB = s.slots[k].operandB ∧
      (∀ i : Fin 16, sl.buffer[i] =
        if st = .ok ∧ s.slots[k].kind = 1#4 then data.getD i.val s.slots[k].buffer[i] else s.slots[k].buffer[i]) ∧
      sl.result =
        if st = .ok ∧ (s.slots[k].kind = 3#4 ∨ s.slots[k].kind = 4#4 ∨ s.slots[k].kind = 5#4) then data.headD 0#32
        else s.slots[k].result) ∧
    (∀ (p : Place) (e : PostedEntry), s.aperture.posted.find? (fun f => f.place == p) = some e →
      (st = .ok → s.deliver (.posted p) st data = s.dropPosted p) ∧
      (st ≠ .ok →
        s.deliver (.posted p) st data =
          ({ s.dropPosted p with
            aperture := { (s.dropPosted p).aperture with failures := min (s.aperture.failures + 1) 255 } } :
              State).addEvent
            { kind := .postedWriteFailed, station := some e.target, tag := none, slot := none, page := some e.page
              status := some st, address := none })) ∧
    (∀ l : HeldLoad, s.host.held = some (.load l) →
      (st = .ok →
        s.deliver .apertureRead st data =
          { s with host := { s.host with held := none, reply := some (.data (data.headD 0#32)) } }) ∧
      (st ≠ .ok →
        s.deliver .apertureRead st data =
          ({ s with host := { s.host with held := none, reply := some .busError } } : State).addEvent
            { kind := .apertureReadFailed, station := some l.target, tag := none, slot := none, page := some l.page
              status := some st, address := none }))) ∧
  (∀ (p : Place) (s : State),
    ∃ (slots : Vector Slot 4) (held : Option HeldAccess),
      s.dropPosted p =
          { s with
            aperture := { s.aperture with posted := s.aperture.posted.filter fun e => decide (e.place ≠ p) }
            slots := slots, host := { s.host with held := held } } ∧
        (∀ k : SlotNo,
          (∀ noted, s.slots[k].state = .fence noted →
            slots[k] = { s.slots[k] with state := .fence (noted.filter fun q => decide (q ≠ p)) }) ∧
          ((∀ noted, s.slots[k].state ≠ .fence noted) → slots[k] = s.slots[k])) ∧
        (∀ l, s.host.held = some (.load l) →
          held = some (.load { l with noted := l.noted.filter fun q => decide (q ≠ p) })) ∧
        ((∀ l, s.host.held ≠ some (.load l)) → held = s.host.held)) ∧
  (∀ (s : State),
    s.followThrough = (s.followOns 16).checkDrain ∧
    (∀ n, s.noneEligible → s.noStoreDue → s.noLoadDue → s.noSlotDue → s.noFenceDue → s.followOns n = s) ∧
    (∀ n pre e post, s.aperture.posted = pre ++ e :: post → eligibleAt pre e post →
      (∀ a f b, s.aperture.posted = a ++ f :: b → eligibleAt a f b → pre.length ≤ a.length) →
      s.followOns (n + 1) = (s.presentPosted e).followOns n) ∧
    (s.pins.resetLow = false → s.noneEligible →
      (∀ n, ¬s.noStoreDue → ∃ t, exec .heldStorePlaced s = .next t ∧ s.followOns (n + 1) = t.followOns n) ∧
      (∀ n, ¬s.noLoadDue → ∃ t, exec .loadPresented s = .next t ∧ s.followOns (n + 1) = t.followOns n) ∧
      (∀ n k, s.noStoreDue → s.noLoadDue → s.slots[k].state = .fence [] →
        (∀ j, j < k → s.slots[j].state ≠ .fence []) →
        ∃ t, exec (.slotPresented k) s = .next t ∧ s.followOns (n + 1) = t.followOns n) ∧
      (∀ n, s.noSlotDue → ¬s.noFenceDue →
        ∃ t, exec .fenceReadComplete s = .next t ∧ s.followOns (n + 1) = t.followOns n))) ∧
  (∀ (s : State), ∃ c w : Fin 17,
    (s.readRegister 0x020#12).toNat = c.val + 256 * w.val ∧
      c.val = (s.outbound.table.toList.filter Option.isSome).length ∧
      w.val =
        (s.outbound.table.toList.filter fun o =>
          match o with
          | some { state := .waiting _, .. } => true
          | _ => false).length)

/-- R64 to R67, R75: how the code read ends an attempt. R117, R114: a NO-ACK end raises the count of an UNHEARD or
PRESENT record, and makes it SILENT with STATION-SILENT when the count reaches the threshold; it leaves a SILENT or
DEPARTED record as it is. That the record of the end comes before STATION-SILENT, where R161 leaves the order open, is the
model's choice (log entry 14). -/
def Obligations.AttemptsGoOnByTheirCode : Prop :=
  (∀ (g : Tag) (e : TransEntry) (s : State), s.outbound.table[g] = some e →
    let limit := s.membership.config.attemptLimit.toNat
    let next (code : AckCode) (st : TransState) : State :=
      { s with
        outbound :=
          { s.outbound with
            table :=
              s.outbound.table.set g
                (some { e with attempts := e.attempts + 1, lastCode := some code, state := st }) } }
    (e.body.awaitsResponse = true →
      s.afterAttempt g .accept = next .accept (.waiting (s.membership.config.responseTimeout.toNat * 50000))) ∧
    (e.body.awaitsResponse = false → s.afterAttempt g .accept = s.endEntry g .ok []) ∧
    s.afterAttempt g .refuse = s.endEntry g .refused [] ∧ s.afterAttempt g .stale = s.endEntry g .answerLost [] ∧
    (e.cancel = false → e.attempts + 1 < limit →
      s.afterAttempt g .busy = next .busy (.backoff (64 * (e.attempts + 1) + 8 * s.membership.own.val)) ∧
        s.afterAttempt g .nothing = next .nothing (.backoff (64 * (e.attempts + 1) + 8 * s.membership.own.val))) ∧
    (e.cancel = true ∨ limit ≤ e.attempts + 1 → s.afterAttempt g .busy = s.endEntry g .targetBusy []) ∧
    (e.cancel = false → limit ≤ e.attempts + 1 → e.target ≠ s.membership.own →
      s.afterAttempt g .nothing = (s.endEntry g .noAck []).countNoAck e.target) ∧
    (e.cancel = true → s.afterAttempt g .nothing = s.endEntry g .noAck [])) ∧
  (∀ (i : Station) (s : State),
    let r := s.membership.roster[i]
    let th := s.membership.config.silentThreshold.toNat
    (r.state = .unheard ∨ r.state = .present → r.count + 1 < th →
      s.countNoAck i =
        { s with
          membership :=
            { s.membership with roster := s.membership.roster.set i { state := r.state, count := r.count + 1 } } }) ∧
    (r.state = .unheard ∨ r.state = .present → th ≤ r.count + 1 →
      s.countNoAck i =
        ({ s with
          membership :=
            { s.membership with roster := s.membership.roster.set i { state := .silent, count := th } } } :
          State).addEvent
          { kind := .stationSilent, station := some i, tag := none, slot := none, page := none, status := none
            address := none }) ∧
    (r.state = .silent ∨ r.state = .departed → s.countNoAck i = s))

/-- R64, R75, R89, R93, R97, R115: the slot of the own request is read: the spent mark is set, the delimiter follows, the
receive buffer is free, a code other than NONE is a hearing of the destination, and the attempt goes on by the code, with what
an end brings about. That the hearing, and so STATION-RETURNED, comes before the record of the end, where R161 leaves the order
open, is the model's choice (log entry 14). -/
def Obligations.RequestAcknowledgeReportsTheCodeRead : Prop :=
  ∀ (bits : BitVec 3) (g : Tag) (f : RawFrame) (s : State), s.pins.resetLow = false →
    s.link.phase = .own { owner := .transaction g, frame := f } →
    let h : State :=
      { s with link := { s.link with phase := .ending 1, idleLength := 0, spent := true, receiveBuffer := .free } }
    exec (.requestAcknowledge bits) s = .next
      (if bits = 0b000#3 then (h.hear f.dest).afterAttempt g .accept
       else if bits = 0b001#3 then (h.hear f.dest).afterAttempt g .busy
       else if bits = 0b010#3 then (h.hear f.dest).afterAttempt g .refuse
       else if bits = 0b011#3 then (h.hear f.dest).afterAttempt g .stale
       else h.afterAttempt g .nothing).followThrough

/-- R34, R63, R75, R86, R87: a lost arbitration is no attempt. The station listens on; a reply takes the head of the reply
order again, a request its former place at the head of the queued order or, marked, ends CANCELLED, and a membership frame
stays pending. R88: a readback mismatch of a request is an attempt that read NONE and leaves the spent mark as it was; a
membership frame stays pending. That its NO-ACK end is counted in the Roster, with STATION-SILENT after the record of its
origin, before what the removal brings about is the model's choice (log entry 14). R33, R88: one of a RESPONSE is an attempt
too: below the limit the entry backs off, at it the entry leaves the list, its record is closed and REPLY-UNDELIVERED is
recorded. R97: the buffer fills with the other station's frame. -/
def Obligations.LostArbitrationAndReadbackAbort : Prop :=
  (∀ (f : RawFrame) (s : State), s.pins.resetLow = false →
    let h : State := { s with link := { s.link with phase := .frame, receiveBuffer := .filling } }
    (∀ g e, s.link.phase = .own { owner := .transaction g, frame := f } → s.outbound.table[g] = some e →
      e.cancel = false →
      exec .arbitrationLost s = .next
        { h with
          outbound :=
            { s.outbound with
              table := s.outbound.table.set g (some { e with state := .queued }), queued := g :: s.outbound.queued } }) ∧
    (∀ g e, s.link.phase = .own { owner := .transaction g, frame := f } → s.outbound.table[g] = some e →
      e.cancel = true → exec .arbitrationLost s = .next (h.endEntry g .cancelled []).followThrough) ∧
    (∀ (i : Station) (g : Tag) (pre post : List ListEntry) (e : ListEntry),
      s.link.phase = .own { owner := .reply i g, frame := f } → s.inbound.list = pre ++ e :: post → e.source = i →
      e.tag = g → e.state = .replyOnAir → (∀ x ∈ pre ++ post, x.state ≠ .replyOnAir) →
      exec .arbitrationLost s = .next
        (h.withList (pre ++ { e with state := .replyReady } :: post) ((i, g) :: s.inbound.replyOrder))) ∧
    (s.link.phase = .own { owner := .announce, frame := f } ∨ s.link.phase = .own { owner := .leave, frame := f } →
      exec .arbitrationLost s = .next h)) ∧
  (∀ (f : RawFrame) (s : State), s.pins.resetLow = false →
    let h : State := { s with link := { s.link with phase := .frame, receiveBuffer := .filling } }
    (∀ g, s.link.phase = .own { owner := .transaction g, frame := f } →
      exec .readbackAbort s = .next (h.afterAttempt g .nothing).followThrough) ∧
    (∀ (pre post : List ListEntry) (e : ListEntry),
      s.link.phase = .own { owner := .reply e.source e.tag, frame := f } → s.inbound.list = pre ++ e :: post →
      e.state = .replyOnAir → (∀ x ∈ pre ++ post, x.state ≠ .replyOnAir) →
      let n := e.attempts + 1
      (n < s.membership.config.attemptLimit.toNat →
        exec .readbackAbort s = .next
          (h.withList
            (pre ++ { e with state := .replyBackoff (64 * n + 8 * s.membership.own.val), attempts := n } :: post)
            s.inbound.replyOrder)) ∧
      (s.membership.config.attemptLimit.toNat ≤ n →
        exec .readbackAbort s = .next
          ((({ h with
            inbound :=
              { s.inbound with
                list := pre ++ post
                filter :=
                  if s.inbound.filter[e.source][e.tag] = { issue := e.issue, state := .opened } then
                    s.inbound.filter.set e.source
                      (s.inbound.filter[e.source].set e.tag { issue := e.issue, state := .closed })
                  else s.inbound.filter } } : State).checkDrain).addEvent
            { kind := .replyUndelivered, station := some e.source, tag := some e.tag, slot := none, page := none
              status := none, address := none }))) ∧
    (s.link.phase = .own { owner := .announce, frame := f } ∨ s.link.phase = .own { owner := .leave, frame := f } →
      exec .readbackAbort s = .next h))

/-- R32, R33, R93: the slot of the own RESPONSE. ACCEPT and STALE remove the entry and close its record if it is OPEN
with the entry's issue bit; any other reading counts an attempt: below the limit the entry backs off, at it the entry
is removed with REPLY-UNDELIVERED. R109: a drain may end with the removal. That STATION-RETURNED comes before REPLY-UNDELIVERED,
where R161 leaves the order open, is the model's choice (log entry 14). -/
def Obligations.ReplyAcknowledgeRemovesOrRetries : Prop :=
  ∀ (bits : BitVec 3) (f : RawFrame) (pre post : List ListEntry) (e : ListEntry) (s : State), s.pins.resetLow = false →
    s.link.phase = .own { owner := .reply e.source e.tag, frame := f } → s.inbound.list = pre ++ e :: post →
    e.state = .replyOnAir → (∀ x ∈ pre ++ post, x.state ≠ .replyOnAir) →
    let n := e.attempts + 1
    let h0 : State := { s with link := { s.link with phase := .ending 1, idleLength := 0, receiveBuffer := .free } }
    let h : State :=
      if bits = 0b000#3 ∨ bits = 0b001#3 ∨ bits = 0b010#3 ∨ bits = 0b011#3 then h0.hear e.source else h0
    let removed : State :=
      ({ h with
        inbound :=
          { s.inbound with
            list := pre ++ post
            filter :=
              if s.inbound.filter[e.source][e.tag] = { issue := e.issue, state := .opened } then
                s.inbound.filter.set e.source
                  (s.inbound.filter[e.source].set e.tag { issue := e.issue, state := .closed })
              else s.inbound.filter } } : State).checkDrain
    (bits = 0b000#3 ∨ bits = 0b011#3 → exec (.replyAcknowledge bits) s = .next removed) ∧
    (bits ≠ 0b000#3 → bits ≠ 0b011#3 → n < s.membership.config.attemptLimit.toNat →
      exec (.replyAcknowledge bits) s = .next
        (h.withList
          (pre ++ { e with state := .replyBackoff (64 * n + 8 * s.membership.own.val), attempts := n } :: post)
          s.inbound.replyOrder)) ∧
    (bits ≠ 0b000#3 → bits ≠ 0b011#3 → s.membership.config.attemptLimit.toNat ≤ n →
      exec (.replyAcknowledge bits) s = .next
        (removed.addEvent
          { kind := .replyUndelivered, station := some e.source, tag := some e.tag, slot := none, page := none
            status := none, address := none }))

/-- R65, R33, R67: a backoff that ends puts a medium entry last in the queued order and a reply last in the reply order; a
response timer that runs out ends a WAITING entry TIMEOUT, with what that end brings about. R71, R25, R54, R55: at the end of
its backoff a loopback entry is presented again to the own Inbound Unit, whose code is one attempt: a PROBE draws ACCEPT and
ends OK, any other the code of the accept decision on what it carries, a WRITE's words those of its origin's buffer (R58).
MODEL'S CHOICE (log entry 8): each row says that its interval has run out, and acts whatever remains of it in the state. -/
def Obligations.ElapsedIntervalsAct : Prop :=
  (∀ (s : State), s.pins.resetLow = false →
    (∀ (g : Tag) (e : TransEntry) (n : Nat), s.outbound.table[g] = some e → e.state = .backoff n →
      e.target ≠ s.membership.own →
      exec (.backoffElapsed g) s = .next
        { s with
          outbound :=
            { s.outbound with
              table := s.outbound.table.set g (some { e with state := .queued })
              queued := s.outbound.queued ++ [g] } }) ∧
    (∀ (g : Tag) (e : TransEntry) (n : Nat), s.outbound.table[g] = some e → e.state = .waiting n →
      exec (.responseTimeout g) s = .next (s.endEntry g .timeout []).followThrough) ∧
    (∀ (pre post : List ListEntry) (e : ListEntry) (n : Nat), s.inbound.list = pre ++ e :: post →
      e.state = .replyBackoff n → (∀ x ∈ pre ++ post, x.source ≠ e.source ∨ x.tag ≠ e.tag) →
      exec (.replyBackoffElapsed e.source e.tag) s = .next
        (s.withList (pre ++ { e with state := .replyReady } :: post)
          (s.inbound.replyOrder ++ [(e.source, e.tag)])))) ∧
  (∀ (g : Tag) (e : TransEntry) (n : Nat) (s : State), s.pins.resetLow = false → s.outbound.table[g] = some e →
    e.state = .backoff n → e.target = s.membership.own →
    s.membership.link = .online ∨ s.membership.link = .draining →
    let h : State :=
      { s with
        outbound := { s.outbound with table := s.outbound.table.set g (some { e with state := .onAir }) } }
    let answered (o : Offer) : Prop :=
      h.loopbackOffer e = some o ∧
        let d := acceptDecision s.membership.own g e.issue o h
        exec (.loopbackBackoffElapsed g) s = .next (d.2.afterAttempt g d.1).followThrough
    (e.body = .probe → exec (.loopbackBackoffElapsed g) s = .next (h.endEntry g .ok []).followThrough) ∧
    (∀ v, e.body = .signal v → answered (.signal v)) ∧
    (∀ p o c, e.body = .read p o c → answered (.request p o (.read c))) ∧
    (∀ p o op, e.body = .atomic p o op → answered (.request p o (.atomic op))) ∧
    (∀ p o c, e.body = .write p o c →
      (∀ q pre x post, e.origin = .posted q → s.aperture.posted = pre ++ x :: post → x.place = q →
        (∀ y ∈ pre, y.place ≠ q) → answered (.request p o (.write x.words))) ∧
      (∀ k, e.origin = .slot k → c ≤ 16 →
        ∃ ws : List MaskedWord, ws.length = c ∧ answered (.request p o (.write ws)) ∧
          ∀ (i : Fin 16) (hi : i.val < ws.length), ws[i.val] = { mask := 0xF#4, data := s.slots[k].buffer[i] })))

/-! ## The Link -/

/-- R31, R62, R81, R89 to R91, R97: at a transmit opportunity in ONLINE or DRAINING the RESPONSE at the head of the reply
order goes first, then a pending ANNOUNCE or LEAVE, then, with the spent mark clear, the frame at the head of the queued order;
with the mark set a request waits. R105: ANNOUNCING offers its ANNOUNCE and nothing else. R83: an ANNOUNCE carries the protocol
level. What is offered starts, and passes through the receive buffer as well. MODEL'S CHOICE (log entry 8): the row says that
the medium was idle for 11 BT, and acts whatever idle length the state holds. -/
def Obligations.TransmitOpportunityOffersTheHeadFrame : Prop :=
  ∀ (s : State), s.pins.resetLow = false → s.link.attached = true → s.link.phase = .idle →
    let idle : LinkUnit := { s.link with idleLength := max s.link.idleLength 11, driving := none }
    let sending (tx : Transmission) : LinkUnit :=
      { s.link with phase := .own tx, idleLength := 0, receiveBuffer := .holds tx.frame, driving := none }
    let membership (body : FrameBody) : RawFrame :=
      { cls := 3, source := s.membership.own, dest := 0, tag := 0, issue := false, length := 0, body := body }
    let announce : Host.Outcome State Fault Refusal :=
      .next { s with link := sending { owner := .announce, frame := membership (.announce 1) } }
    (s.membership.link = .online ∨ s.membership.link = .draining →
      (∀ (pre post : List ListEntry) (e : ListEntry) (rest : List (Station × Tag)), s.inbound.list = pre ++ e :: post →
        e.state = .replyReady → (∀ x ∈ pre ++ post, x.source ≠ e.source ∨ x.tag ≠ e.tag) →
        s.inbound.replyOrder = (e.source, e.tag) :: rest →
        exec .transmitOpportunity s = .next
          (({ s with
              link :=
                sending
                  { owner := .reply e.source e.tag
                    frame :=
                      { cls := 0, source := s.membership.own, dest := e.source, tag := e.tag, issue := e.issue
                        length := Fin.ofNat 32 e.data.length
                        body := .response ((e.status.getD .ok).code) e.data } } } : State).withList
            (pre ++ { e with state := .replyOnAir } :: post) rest)) ∧
      (s.inbound.replyOrder = [] → s.membership.announcePending = true → exec .transmitOpportunity s = announce) ∧
      (s.inbound.replyOrder = [] → s.membership.announcePending = false → s.membership.leavePending = true →
        exec .transmitOpportunity s = .next { s with link := sending { owner := .leave, frame := membership .leave } }) ∧
      (s.inbound.replyOrder = [] → s.membership.announcePending = false → s.membership.leavePending = false →
        (∀ (g : Tag) (e : TransEntry) (rest : List Tag), s.outbound.queued = g :: rest →
          s.outbound.table[g] = some e → s.link.spent = false →
          exec .transmitOpportunity s = .next
            { s with
              link := sending { owner := .transaction g, frame := s.requestFrame g e }
              outbound :=
                { s.outbound with
                  table := s.outbound.table.set g (some { e with state := .onAir }), queued := rest } }) ∧
        (s.link.spent = true ∨ s.outbound.queued = [] → exec .transmitOpportunity s = .next { s with link := idle }))) ∧
    (s.membership.link = .announcing →
      (s.membership.announcePending = true → exec .transmitOpportunity s = announce) ∧
      (s.membership.announcePending = false → s.membership.leavePending = false →
        exec .transmitOpportunity s = .next { s with link := idle })) ∧
    (s.membership.link = .listening ∨ s.membership.link = .conflict →
      exec .transmitOpportunity s = .next { s with link := idle })

/-- R62, R82, R83, R85, R177: the request frame of an entry with a count of 1 to 16 carries its tag, issue bit and target under
the own number, is well formed and carriable, and has the class, the kind, the length and the body of the entry's kind: a READ
its page, offset and count, a WRITE page, offset and the words of its origin's buffer, an ATOMIC page, offset, operation and
operands, a SIGNAL its value, a PROBE nothing. R86: of two frames that start together the one with the lower class wins, and
within one class the one with the lower source; frames of different class or source never tie. R92, R93: every code driven in
the slot is read as itself, and a value that is no code is reported as NONE. -/
def Obligations.RequestFramesArbitrationAndSlotCodes : Prop :=
  (∀ (g : Tag) (e : TransEntry) (s : State),
    (∀ p o n, e.body = .read p o n → 1 ≤ n ∧ n ≤ 16) →
    (∀ p o n, e.body = .write p o n →
      1 ≤ (s.writeItems e.origin n).length ∧ (s.writeItems e.origin n).length ≤ 16) →
    let f := s.requestFrame g e
    let is (cls length : Nat) (body : FrameBody) : Prop := f.cls.val = cls ∧ f.length.val = length ∧ f.body = body
    f.source = s.membership.own ∧ f.dest = e.target ∧ f.tag = g ∧ f.issue = e.issue ∧ f.malformed = false ∧
      f.carriable = true ∧
      (∀ p o n, e.body = .read p o n → ∃ c : Fin 32, c.val = n ∧ is 1 0 (.readReq p o c)) ∧
      (∀ p o n, e.body = .write p o n →
        (∀ pre x post, e.origin = .posted x.place → s.aperture.posted = pre ++ x :: post →
          (∀ y ∈ pre, y.place ≠ x.place) → is 1 x.words.length (.writeReq p o x.words)) ∧
        (∀ k, e.origin = .slot k → n ≤ 16 →
          ∃ ws : List MaskedWord, ws.length = n ∧ is 1 n (.writeReq p o ws) ∧
            ∀ (i : Fin 16) (hi : i.val < ws.length), ws[i.val] = { mask := 0xF#4, data := s.slots[k].buffer[i] })) ∧
      (∀ p o a, e.body = .atomic p o (.fetchAdd a) → is 1 1 (.atomicReq p o 0 [a])) ∧
      (∀ p o a, e.body = .atomic p o (.swap a) → is 1 1 (.atomicReq p o 1 [a])) ∧
      (∀ p o a b, e.body = .atomic p o (.compareSwap a b) → is 1 2 (.atomicReq p o 2 [a, b])) ∧
      (∀ v, e.body = .signal v → is 2 1 (.signal [v])) ∧ (e.body = .probe → is 2 0 .probe)) ∧
  (∀ (f g : RawFrame),
    (f.beats g = true ↔ f.cls < g.cls ∨ f.cls = g.cls ∧ f.source < g.source) ∧
    (f.cls ≠ g.cls ∨ f.source ≠ g.source → f.beats g = true ∨ g.beats f = true)) ∧
  ((∀ c : AckCode, slotCode c.slotBits = c) ∧
    ∀ bits : BitVec 3, (∀ c : AckCode, c.slotBits ≠ bits) → slotCode bits = .nothing)

/-- R105, R109, R110, R91: the end of the own ANNOUNCE makes an ANNOUNCING station ONLINE; the end of the own LEAVE
takes a DRAINING station OFFLINE with the effects of reaching OFFLINE by leave. R109: in DRAINING the LEAVE becomes
pending when the Transaction Table, the Posted Write Buffer and the Inbound Request List are all empty; while one of
them is not, nothing changes. The row does what every removal does in its own happening (`checkDrain`). -/
def Obligations.MembershipFramesAndTheDrain : Prop :=
  (∀ (f : RawFrame) (s : State), s.pins.resetLow = false →
    (s.link.phase = .own { owner := .announce, frame := f } → s.membership.link = .announcing →
      exec .announceTransmitted s = .next
        { s with
          membership := { s.membership with link := .online, announcePending := false }
          link := { s.link with phase := .idle, idleLength := 0, receiveBuffer := .free }
          interrupt := { s.interrupt with linkCause := true } }) ∧
    (s.link.phase = .own { owner := .leave, frame := f } → s.membership.link = .draining →
      ∃ (roster : Vector RosterRecord 16) (filter : Vector (Vector FilterRecord 16) 16),
        roster[s.membership.own] = { state := .self, count := 0 } ∧
        (∀ i : Station, i ≠ s.membership.own → roster[i] = { state := .unheard, count := 0 }) ∧
        (∀ (i : Station) (g : Tag), (filter[i][g]).state = .vacant) ∧
        exec .leaveTransmitted s = .next
          { s with
            membership :=
              { s.membership with
                link := .offline, announcePending := false, leavePending := false, roster := roster }
            link :=
              { s.link with
                attached := false, phase := .idle, idleLength := 0, receiveBuffer := .free, driving := none
                slotLeft := none }
            inbound := { s.inbound with filter := filter }
            interrupt := { s.interrupt with linkCause := true } })) ∧
  (∀ (s : State), s.pins.resetLow = false →
    let empty : Prop := (∀ g : Tag, s.outbound.table[g] = none) ∧ s.aperture.posted = [] ∧ s.inbound.list = []
    exec .drainComplete s = .next s.checkDrain ∧
    (s.membership.link = .draining → empty →
      s.checkDrain = { s with membership := { s.membership with leavePending := true } }) ∧
    (s.membership.link ≠ .draining ∨ ¬empty → s.checkDrain = s))

/-- R79, R81, R84, R89, R104: the medium. The round gap clears the spent mark; the join listen takes LISTENING to
ANNOUNCING with an ANNOUNCE pending; the run after JOIN ends the assumed busy medium; a start marker makes the medium
busy, its frame filling the receive buffer; a stray bit and a bad frame start the idle count again and drive nothing. R80, R84:
after a bad frame idle is counted from its last dominant bit, so that the recessive bits since then are idle already. R99: the
slot that a soft reset found begun is driven to its end, and the Link Unit then detaches; after a JOIN it stays attached and the
driving ends, which is the model's choice (log entry 27). MODEL'S CHOICE (log entry 8): each row says that its length of idle,
or its run, has passed, a start marker that the medium was idle for 11 BT and a stray bit that it was not, and acts whatever the
state holds of it. -/
def Obligations.MediumHappeningsMoveTheLinkUnit : Prop :=
  (∀ (s : State), s.pins.resetLow = false →
    (s.link.attached = true → s.membership.link ≠ .offline → s.link.phase = .idle →
      exec .roundGapElapsed s = .next
          { s with link := { s.link with idleLength := max s.link.idleLength 30, spent := false, driving := none } } ∧
        exec .startMarker s = .next
          { s with link := { s.link with phase := .frame, idleLength := 0, receiveBuffer := .filling, driving := none } } ∧
        exec .strayDominantBit s = .next
          { s with link := { s.link with phase := .recovering, idleLength := 0, driving := none } }) ∧
    (s.link.attached = true → s.membership.link ≠ .offline → s.link.phase = .frame →
      exec (.badFrame 0) s = .next
          { s with
            link := { s.link with phase := .recovering, idleLength := 0, receiveBuffer := .free, driving := none } } ∧
        ∀ n, exec (.badFrame (n + 1)) s = .next
          { s with link := { s.link with phase := .idle, idleLength := n + 1, receiveBuffer := .free, driving := none } }) ∧
    (s.membership.link = .listening → s.link.phase = .idle →
      exec .joinListenComplete s = .next
        { s with
          membership := { s.membership with link := .announcing, announcePending := true }
          link := { s.link with idleLength := max s.link.idleLength 2000, driving := none }
          interrupt := { s.interrupt with linkCause := true } }) ∧
    (∀ n, s.link.phase = .sync n →
      exec .mediumSyncRun s = .next
          { s with link := { s.link with phase := .idle, idleLength := 11, driving := none, slotLeft := none } } ∧
        exec .strayDominantBit s = .next { s with link := { s.link with phase := .sync 0 } })) ∧
  (∀ (n : Nat) (s : State), s.pins.resetLow = false → s.link.slotLeft = some n →
    (s.membership.link = .offline →
      exec .acknowledgeSlotCompleted s = .next
        { s with
          link :=
            { s.link with
              attached := false, phase := .idle, idleLength := 0, receiveBuffer := .free, driving := none
              slotLeft := none } }) ∧
    (s.membership.link ≠ .offline →
      exec .acknowledgeSlotCompleted s = .next { s with link := { s.link with driving := none, slotLeft := none } }))

/-- R80, R82 to R84, R177: what a transmitter drives for a frame that can be carried at all, bits inserted and CRC
included, every receiver reads back as that frame. That a frame whose kind has no word part is read whole whatever its length
field holds is the model's reading (log entry 15). -/
def Obligations.FrameOnTheLineIsReceivedAsSent : Prop :=
  ∀ (f : RawFrame), f.carriable = true → receiveFrame f.lineBits = some f

/-! ## Frames heard -/

/-- R85, R96, R97, R115, R116: a good frame from another station is a hearing of it, malformed or not: its record becomes
PRESENT with count 0, with STATION-RETURNED if it was SILENT or DEPARTED, the receive buffer is free and nothing is driven.
R36, R37: a purge of a source takes its entries out of the list but for the EXECUTING one, which it orphans, the order of those
that stay being kept, takes them out of the reply order, makes its 16 filter records EMPTY, and changes nothing else; that an
entry REPLY-ON-AIR, which R36 rules out then, would go too is the model's choice (log entry 18); R109: a drain may end with it.
R114, R175: the Roster register of a station reads its state and its count. -/
def Obligations.AGoodFrameIsAHearingAndMembershipFramesPurge : Prop :=
  (∀ (i : Station) (f : RawFrame) (s : State), s.pins.resetLow = false → s.link.attached = true →
    s.membership.link ≠ .offline → s.link.phase = .frame → i ≠ s.membership.own →
    let was := s.membership.roster[i].state
    let heard : State :=
      { s with
        link := { s.link with phase := .ending 4, idleLength := 0, receiveBuffer := .free, driving := none }
        membership :=
          { s.membership with roster := s.membership.roster.set i { state := .present, count := 0 } } }
    let returned : EventRecord :=
      { kind := .stationReturned, station := some i, tag := none, slot := none, page := none, status := none
        address := none }
    let after : State := if was = .silent ∨ was = .departed then heard.addEvent returned else heard
    exec (.frameHeard i) s = .next after ∧
      (f.source = i → exec (.malformedFrame f) s = .next after) ∧
      exec (.announce i) s = .next (after.purge i).checkDrain ∧
      exec (.leaveFrame i) s = .next
        (State.purge i
          (let left : State :=
            { heard with
              membership :=
                { s.membership with roster := s.membership.roster.set i { state := .departed, count := 0 } } }
          if was = .departed then left else
            left.addEvent
              { kind := .stationDeparted, station := some i, tag := none, slot := none, page := none, status := none
                address := none })).checkDrain) ∧
  (∀ (i : Station) (s : State), (s.readRegister (BitVec.ofNat 12 (0x080 + 4 * i.val))).extractLsb' 0 3 =
      BitVec.ofNat 3 (s.membership.roster[i]).state.code ∧
    ((s.membership.roster[i]).count ≤ 7 →
      ((s.readRegister (BitVec.ofNat 12 (0x080 + 4 * i.val))).extractLsb' 8 3).toNat =
        (s.membership.roster[i]).count)) ∧
  (∀ (i : Station) (s : State), ∃ (u : Inbound), s.purge i = { s with inbound := u } ∧ u.enable = s.inbound.enable ∧
    u.list =
      (s.inbound.list.filter fun e => decide (e.source ≠ i ∨ e.state = .executing)).map
        (fun e => if e.source = i then { e with orphaned := true } else e) ∧
    u.replyOrder = s.inbound.replyOrder.filter (fun p => decide (p.1 ≠ i)) ∧
    (∀ g : Tag, (u.filter[i][g]).state = .vacant) ∧
    ∀ (j : Station) (g : Tag), j ≠ i → u.filter[j][g] = s.inbound.filter[j][g])

/-- R22 to R24, R48, R49, R26: the accept decision: its code and its effects, by the filter record, Inbound Enable,
the link state and the room. R41, R175: the inbound status reads the entries, whether one is EXECUTING and whether one is
orphaned. -/
def Obligations.AcceptDecisionFollowsItsSteps : Prop :=
  (∀ (i : Station) (g : Tag) (b : Bool) (o : Offer) (s : State),
    let r := s.inbound.filter[i][g]
    let record (st : FilterState) : Vector (Vector FilterRecord 16) 16 :=
      s.inbound.filter.set i (s.inbound.filter[i].set g { issue := b, state := st })
    let fresh : Prop := r ≠ { issue := b, state := .opened } ∧ r ≠ { issue := b, state := .closed }
    (r = { issue := b, state := .opened } → acceptDecision i g b o s = (.accept, s)) ∧
    (r = { issue := b, state := .closed } → (∃ v, o = .signal v) → acceptDecision i g b o s = (.accept, s)) ∧
    (r = { issue := b, state := .closed } → (∃ p w x, o = .request p w x) →
      acceptDecision i g b o s =
        (.stale, s.addEvent
          { kind := .duplicateAfterAnswer, station := some i, tag := some g, slot := none, page := none
            status := none, address := none })) ∧
    (fresh → s.inbound.enable = false ∨ s.membership.link = .draining → acceptDecision i g b o s = (.refuse, s)) ∧
    (fresh → s.inbound.enable = true → s.membership.link ≠ .draining →
      (r.state = .opened → acceptDecision i g b o s = (.busy, s)) ∧
      (∀ p w x, o = .request p w x → 8 ≤ s.inbound.list.length → acceptDecision i g b o s = (.busy, s)) ∧
      (∀ v, o = .signal v → 8 ≤ s.signals.length → acceptDecision i g b o s = (.busy, s)) ∧
      (r.state ≠ .opened → ∀ p w x, o = .request p w x → s.inbound.list.length < 8 →
        acceptDecision i g b o s =
          (.accept,
            { s with
              inbound :=
                { s.inbound with
                  list :=
                    s.inbound.list ++
                      [{ source := i, tag := g, issue := b, page := p, offset := w, body := x, state := .fresh
                         orphaned := false, status := none, data := [], attempts := 0, localAddr := none }]
                  filter := record .opened } })) ∧
      (r.state ≠ .opened → ∀ v, o = .signal v → s.signals.length < 8 →
        acceptDecision i g b o s =
          (.accept,
            { s with
              signals := s.signals ++ [{ source := i, value := v }]
              inbound := { s.inbound with filter := record .closed } })))) ∧
  (∀ (s : State), s.inbound.list.length ≤ 8 →
    ((s.readRegister 0x01C#12).extractLsb' 0 4).toNat = s.inbound.list.length ∧
    ((s.readRegister 0x01C#12).getLsbD 8 = true ↔ ∃ e ∈ s.inbound.list, e.state = .executing) ∧
    ((s.readRegister 0x01C#12).getLsbD 9 = true ↔ ∃ e ∈ s.inbound.list, e.orphaned = true))

/-- R22, R42, R48, R55, R68, R92, R96: a well-formed unicast frame for the station is a hearing of its source, and in
ONLINE and DRAINING its code is driven: that of the accept decision, ACCEPT for a PROBE, that of response matching with what the
end of an entry brings about; in any other followed link state it is the hearing alone. That STATION-RETURNED comes before
DUPLICATE-AFTER-ANSWER and LATE-RESPONSE, where R96 and R161 leave the order open, is the model's choice (log entry 14). -/
def Obligations.AddressedFramesAreDecidedAndAnswered : Prop :=
  ∀ (i : Station) (g : Tag) (b : Bool) (p : Page) (w : Offset) (n : Nat) (items : List MaskedWord) (op : AtomicOp)
    (v : Word) (st : WireStatus) (data : List Word) (s : State), s.pins.resetLow = false →
    s.link.attached = true → s.membership.link ≠ .offline → s.link.phase = .frame → i ≠ s.membership.own →
    1 ≤ n → n ≤ 16 → 1 ≤ items.length → items.length ≤ 16 → data.length ≤ 16 →
    let was := s.membership.roster[i].state
    let present : State :=
      { s with
        link := { s.link with phase := .ending 4, idleLength := 0, receiveBuffer := .free, driving := none }
        membership :=
          { s.membership with roster := s.membership.roster.set i { state := .present, count := 0 } } }
    let h : State :=
      if was = .silent ∨ was = .departed then
        present.addEvent
          { kind := .stationReturned, station := some i, tag := none, slot := none, page := none, status := none
            address := none }
      else present
    let driven (d : AckCode × State) : State := { d.2 with link := { d.2.link with driving := some d.1 } }
    (s.membership.link = .online ∨ s.membership.link = .draining →
      exec (.readReq i g b p w n) s = .next (driven (acceptDecision i g b (.request p w (.read n)) h)) ∧
        exec (.writeReq i g b p w items) s = .next (driven (acceptDecision i g b (.request p w (.write items)) h)) ∧
        exec (.atomicReq i g b p w op) s = .next (driven (acceptDecision i g b (.request p w (.atomic op)) h)) ∧
        exec (.signal i g b v) s = .next (driven (acceptDecision i g b (.signal v) h)) ∧
        exec (.probe i g b) s = .next (driven (.accept, h)) ∧
        exec (.response i g b st data) s = .next (driven (matchResponse i g b st data h)).followThrough) ∧
    (s.membership.link ≠ .online → s.membership.link ≠ .draining →
      exec (.readReq i g b p w n) s = .next h ∧ exec (.writeReq i g b p w items) s = .next h ∧
        exec (.atomicReq i g b p w op) s = .next h ∧ exec (.signal i g b v) s = .next h ∧
        exec (.probe i g b) s = .next h ∧ exec (.response i g b st data) s = .next h)

/-- R68, R69, R72: a RESPONSE matches the entry of its tag with its issue bit, its source as target, a kind that
awaits one and a fitting length; it draws ACCEPT and ends the entry with its wire status, and any other draws STALE
with LATE-RESPONSE. -/
def Obligations.ResponsesMatchByTagIssueTargetKindAndLength : Prop :=
  ∀ (i : Station) (g : Tag) (b : Bool) (st : WireStatus) (data : List Word) (s : State),
    let fits (e : TransEntry) : Prop :=
      e.issue = b ∧ e.target = i ∧
        ((∃ p w n, e.body = .read p w n ∧ data.length = if st = .ok then n else 0) ∨
          (∃ p w n, e.body = .write p w n ∧ data.length = 0) ∨
          (∃ p w op, e.body = .atomic p w op ∧ data.length = if st = .ok then 1 else 0))
    (∀ e, s.outbound.table[g] = some e → fits e →
      matchResponse i g b st data s = (.accept, s.endEntry g st.toStatus data)) ∧
    ((∀ e, s.outbound.table[g] = some e → ¬fits e) →
      matchResponse i g b st data s =
        (.stale, s.addEvent
          { kind := .lateResponse, station := some i, tag := some g, slot := none, page := none, status := none
            address := none }))

/-- R111, R112, R39, R76, R133, R147, R156: a good frame with the own source, heard in LISTENING, ANNOUNCING, ONLINE
or DRAINING, enters CONFLICT and drops the station's work: an ISSUED slot is DONE with CANCELLED where it has a marked entry and
with LINK-DOWN otherwise, in the fence phase always. R129, R124, R132, R161: the held load or store ends with a bus error and
its record, the last of the happening, and a held fence read returns the count, the LINK-DOWN failures included. R160, R161: the
records join the Event Queue one after another, and those that find 16 present are lost, with the overflow flag set. Further
such frames change only the medium. -/
def Obligations.OwnSourceFrameEntersConflict : Prop :=
  ∀ (s : State), s.pins.resetLow = false → s.link.attached = true → s.membership.link ≠ .offline →
    s.link.phase = .frame →
    let medium : LinkUnit :=
      { s.link with phase := .ending 4, idleLength := 0, receiveBuffer := .free, driving := none }
    (s.membership.link = .conflict → exec .ownSourceFrameHeard s = .next { s with link := medium }) ∧
    (s.membership.link ≠ .conflict →
      let failures := min (s.aperture.failures + s.aperture.posted.length) 255
      let none_ (kind : EventKind) : EventRecord :=
        { kind := kind, station := none, tag := none, slot := none, page := none, status := none, address := none }
      let records : List EventRecord :=
        none_ .stationConflict ::
          (s.aperture.posted.map fun e =>
              { none_ .postedWriteFailed with
                station := some e.target, page := some e.page, status := some .linkDown }) ++
            (match s.host.held with
             | some (.load l) =>
               [{ none_ .apertureReadFailed with
                  station := some l.target, page := some l.page, status := some .linkDown }]
             | some (.store h) =>
               [{ none_ .apertureRefused with status := some .linkDown, address := some (.aperture h.address) }]
             | _ => [])
      ∃ t, exec .ownSourceFrameHeard s = .next t ∧
        t.membership =
          { s.membership with link := .conflict, announcePending := false, leavePending := false } ∧
        t.link = medium ∧
        t.interrupt = { s.interrupt with linkCause := true } ∧
        (∀ g : Tag, t.outbound.table[g] = none) ∧ t.outbound.issueBits = s.outbound.issueBits ∧
        t.outbound.queued = [] ∧
        t.inbound.list =
          (if s.port.dataOnBus then
            (s.inbound.list.filter fun e => decide (e.state = .executing)).map fun e => { e with orphaned := true }
          else []) ∧
        t.inbound.replyOrder = [] ∧ t.inbound.enable = s.inbound.enable ∧
        (∀ (i : Station) (g : Tag), (t.inbound.filter[i][g]).state = .vacant) ∧
        t.map = { s.map with fill := none } ∧ t.signals = s.signals ∧ t.aperture.map = s.aperture.map ∧
        t.aperture.posted = [] ∧
        (s.aperture.failures ≤ 255 → t.aperture.failures = if s.host.held = some .fence then 0 else failures) ∧
        t.port.engine = none ∧ t.port.maintenance = s.port.maintenance ∧
        (∀ c, s.port.current = some c → c.requester = .maintenance → t.port.current = some c) ∧
        (∀ c, s.port.current = some c → c.requester = .engine → c.discard = .clear →
          t.port.current = some { c with discard := .byConflict }) ∧
        (∀ c, s.port.current = some c → c.discard ≠ .clear → t.port.current = some c) ∧
        (s.port.current = none → t.port.current = none) ∧
        (∀ k : SlotNo, s.slots[k].state.issued = false → t.slots[k] = s.slots[k]) ∧
        (∀ k : SlotNo, s.slots[k].state.issued = true →
          let marked : Prop :=
            s.slots[k].state = .entry ∧
              ∃ (g : Tag) (e : TransEntry), s.outbound.table[g] = some e ∧ e.origin = .slot k ∧ e.cancel = true
          let ended (st : Status) : Slot := { s.slots[k] with state := .done, cancelPending := false, status := some st }
          (marked → t.slots[k] = ended .cancelled) ∧ (¬marked → t.slots[k] = ended .linkDown)) ∧
        t.events = records.foldl EventQueue.append s.events ∧
        (s.events.records.length + records.length ≤ 16 →
          t.events = { s.events with records := s.events.records ++ records }) ∧
        (16 < s.events.records.length + records.length → s.events.records.length ≤ 16 →
          t.events = { records := (s.events.records ++ records).take 16, overflow := true }) ∧
        (s.host.held = none → t.host = s.host) ∧
        (∀ l, s.host.held = some (.load l) → t.host = { s.host with held := none, reply := some .busError }) ∧
        (∀ h, s.host.held = some (.store h) → t.host = { s.host with held := none, reply := some .busError }) ∧
        (s.host.held = some .fence → s.aperture.failures ≤ 255 →
          t.host = { s.host with held := none, reply := some (.data (BitVec.ofNat 32 failures)) }) ∧
        t.pins = s.pins ∧ t.memory = s.memory ∧ t.pending = s.pending)

/-! ## The Inbound Engine and the Memory Port -/

/-- R4, R29: the rights check: a READ needs the source's READ MASK bit, a WRITE its WRITE MASK bit, an ATOMIC both and
then ATOMIC ENABLE. R43: the value each atomic operation stores. -/
def Obligations.RightsAndAtomicOperations : Prop :=
  (∀ (m : MapEntry) (i : Station),
    (∀ n, rightsFailure m i (.read n) = if m.readMask.getLsbD i then none else some .notPermitted) ∧
    (∀ ws, rightsFailure m i (.write ws) = if m.writeMask.getLsbD i then none else some .notPermitted) ∧
    (∀ op, rightsFailure m i (.atomic op) =
      if m.readMask.getLsbD i = true ∧ m.writeMask.getLsbD i = true then
        (if m.atomicEnable then none else some .atomicDisabled)
      else some .notPermitted)) ∧
  (∀ (a b old : Word),
    (∃ v, (AtomicOp.fetchAdd a).newValue old = some v ∧ v.toNat = (old.toNat + a.toNat) % 2 ^ 32) ∧
    (AtomicOp.swap a).newValue old = some a ∧
    (old = a → (AtomicOp.compareSwap a b).newValue old = some b) ∧
    (old ≠ a → (AtomicOp.compareSwap a b).newValue old = none))

/-- R27, R28, R7, R8, R29, R30, R162: the oldest NEW entry starts when none is EXECUTING. Past the end of its page it
is REPLY-READY with BOUNDARY; a cached copy becomes most recent and decides NO-WINDOW, the rights, or the data cycle
at its local address; a miss starts a fill. An event carries the local address that the entry holds, if any. R35: an entry of
the own station that ends here has its reply presented back at once. With no NEW entry, or one EXECUTING, nothing starts. -/
def Obligations.ExecutionStartsTheOldestNewEntry : Prop :=
  (∀ (pre post : List ListEntry) (e : ListEntry) (s : State), s.pins.resetLow = false →
    nextToExecute s.inbound.list pre e post → e.orphaned = false →
    let key := (e.source, e.tag)
    let other : Prop := e.source ≠ s.membership.own
    let own : Prop := e.source = s.membership.own
    let rejected (st : Status) (a : Option EventAddress) : EventRecord :=
      { kind := .inboundRejected, station := some e.source, tag := some e.tag, slot := none, page := some e.page
        status := some st, address := a }
    let ready (x : ListEntry) (h : State) : State :=
      h.withList (pre ++ x :: post) (s.inbound.replyOrder ++ [key])
    let going (x : ListEntry) (h : State) : State := h.withList (pre ++ x :: post) s.inbound.replyOrder
    (1024 < e.offset.val + e.body.count →
      (other →
        exec .executionStart s = .next
          (ready { e with state := .replyReady, status := some .boundary, data := [] }
            (s.addEvent (rejected .boundary (e.localAddr.map .local32))))) ∧
      (own → exec .executionStart s = .next ((going { e with state := .executing } s).endExecution .boundary []))) ∧
    (e.offset.val + e.body.count ≤ 1024 →
      (∀ c ∈ s.map.cache, c.page ≠ e.page) →
      exec .executionStart s = .next
        (State.portRequest .engine (mapReadRequest s.membership.config.mapBase e.page)
          (going { e with state := .executing }
            { s with map := { s.map with fill := some { page := e.page, void := false } } }))) ∧
    (∀ (ca cb : List CacheEntry) (c : CacheEntry), e.offset.val + e.body.count ≤ 1024 →
      s.map.cache = ca ++ c :: cb → c.page = e.page → (∀ d ∈ ca ++ cb, d.page ≠ e.page) →
      let h : State := { s with map := { s.map with cache := ca ++ cb ++ [c] } }
      let a : Word := BitVec.ofNat 32 (c.entry.frame.toNat * 4096 + 4 * e.offset.val)
      (c.entry.valid = false →
        (other →
          exec .executionStart s = .next
            (ready { e with state := .replyReady, status := some .noWindow, data := [] }
              (h.addEvent (rejected .noWindow (e.localAddr.map .local32))))) ∧
        (own → exec .executionStart s = .next ((going { e with state := .executing } h).endExecution .noWindow []))) ∧
      (∀ w, c.entry.valid = true → rightsFailure c.entry e.source e.body = some w →
        (other →
          exec .executionStart s = .next
            (ready { e with state := .replyReady, localAddr := some a, status := some w, data := [] }
              (h.addEvent (rejected w.toStatus (some (.local32 a)))))) ∧
        (own →
          exec .executionStart s = .next
            ((going { e with state := .executing, localAddr := some a } h).endExecution w []))) ∧
      (c.entry.valid = true → rightsFailure c.entry e.source e.body = none →
        exec .executionStart s = .next
          (State.portRequest .engine { kind := e.body.cycle, addr := a }
            (going { e with state := .executing, localAddr := some a } h))))) ∧
  (∀ (s : State), (∀ e ∈ s.inbound.list, e.state ≠ .fresh) ∨ (∃ e ∈ s.inbound.list, e.state = .executing) →
    exec .executionStart s = .next s)

/-- R9 to R11, R28, R29, R37, R154: the end of a fill's map read. A void fill is asked for again with its mark clear; an error
answers MAP-ERROR and caches nothing; OK installs the copy as most recent, whatever its VALID, evicting the least recent of 24,
and goes on with it for the executing entry, orphaned or not: NO-WINDOW, the rights, or the data cycle. What the end of an
execution does is stated with the ends of data cycles. -/
def Obligations.MapFillEndInstallsRepeatsOrFails : Prop :=
  ∀ (ts : List Transfer) (c : Cycle) (p : Page) (f : Fill) (pre post : List ListEntry) (e : ListEntry) (s : State),
    s.pins.resetLow = false → s.port.current = some c → c.requester = .engine → c.discard = .clear →
    c.request.kind = .mapRead p → s.map.fill = some f → executes s.inbound.list pre e post →
    let r := readTransfers 2 c.request.addr ts s.memory
    let h : State := { s with memory := r.memory, map := { s.map with fill := none } }
    (f.void = true →
      exec (.mapFillEnd ts) s = .next
        (State.portRequest .engine (mapReadRequest s.membership.config.mapBase f.page)
          { s with memory := r.memory, map := { s.map with fill := some { page := f.page, void := false } } }).portNext) ∧
    (f.void = false → r.outcome ≠ .ok →
      exec (.mapFillEnd ts) s = .next (h.endExecution .mapError []).portNext ∧
      (e.source ≠ s.membership.own → e.orphaned = false →
        exec (.mapFillEnd ts) s = .next
          (((h.withList (pre ++ { e with state := .replyReady, status := some .mapError, data := [] } :: post)
                (s.inbound.replyOrder ++ [(e.source, e.tag)])).addEvent
              { kind := .inboundRejected, station := some e.source, tag := some e.tag, slot := none, page := some e.page
                status := some .mapError, address := e.localAddr.map .local32 }).portNext))) ∧
    (f.void = false → r.outcome = .ok →
      let m := mapEntryOf r.words
      let kept := if 24 ≤ s.map.cache.length then s.map.cache.tail else s.map.cache
      let g : State :=
        { h with map := { s.map with fill := none, cache := kept ++ [{ page := f.page, entry := m }] } }
      let a : Word := BitVec.ofNat 32 (m.frame.toNat * 4096 + 4 * e.offset.val)
      let addressed : State := g.withList (pre ++ { e with localAddr := some a } :: post) s.inbound.replyOrder
      (m.valid = false → exec (.mapFillEnd ts) s = .next (g.endExecution .noWindow []).portNext) ∧
      (∀ w, m.valid = true → rightsFailure m e.source e.body = some w →
        exec (.mapFillEnd ts) s = .next (addressed.endExecution w []).portNext) ∧
      (m.valid = true → rightsFailure m e.source e.body = none →
        exec (.mapFillEnd ts) s = .next
          (State.portRequest .engine { kind := e.body.cycle, addr := a } addressed).portNext))

/-- R30, R31, R35, R37, R72, R154: the end of an execution with a wire status, INBOUND-REJECTED unless it is OK. The entry
of another station is REPLY-READY with its status and data and last in the reply order; an orphan is removed, and a drain may
end with it (R109); the reply of the own station is matched by its own Outbound Unit at once, the entry is removed and its
record closed, and then comes what the end of the transaction brings about, an order that R127 leaves open and the model chose
(log entry 1). The end of a data read or masked write is that end, with OK
and the words read or with MEMORY-ERROR, and the port starts what waits. -/
def Obligations.DataCycleEndMakesTheReplyReady : Prop :=
  (∀ (pre post : List ListEntry) (e : ListEntry) (w : WireStatus) (data : List Word) (s : State),
    executes s.inbound.list pre e post →
    let h : State :=
      if w = .ok then s else
        s.addEvent
          { kind := .inboundRejected, station := some e.source, tag := some e.tag, slot := none, page := some e.page
            status := some w.toStatus, address := e.localAddr.map .local32 }
    (e.orphaned = true → s.endExecution w data = (h.withList (pre ++ post) s.inbound.replyOrder).checkDrain) ∧
    (e.orphaned = false → e.source ≠ s.membership.own →
      s.endExecution w data =
        h.withList (pre ++ { e with state := .replyReady, status := some w, data := data } :: post)
          (s.inbound.replyOrder ++ [(e.source, e.tag)])) ∧
    (e.orphaned = false → e.source = s.membership.own →
      s.endExecution w data =
        ({ (matchResponse e.source e.tag e.issue w data h).2 with
          inbound :=
            { s.inbound with
              list := pre ++ post
              filter :=
                if s.inbound.filter[e.source][e.tag] = { issue := e.issue, state := .opened } then
                  s.inbound.filter.set e.source
                    (s.inbound.filter[e.source].set e.tag { issue := e.issue, state := .closed })
                else s.inbound.filter } } : State).followThrough)) ∧
  (∀ (ts : List Transfer) (c : Cycle) (pre post : List ListEntry) (e : ListEntry) (s : State), s.pins.resetLow = false →
    s.port.current = some c → c.requester = .engine → c.discard = .clear →
    ((∃ n, c.request.kind = .dataRead n) ∨ ∃ ws, c.request.kind = .maskedWrite ws) →
    executes s.inbound.list pre e post →
    let r := c.run ts s.memory
    let h : State := { s with memory := r.memory }
    let st : WireStatus := if r.outcome = .ok then .ok else .memoryError
    let data : List Word := if r.outcome = .ok then r.words else []
    exec (.dataCycleEnd ts) s = .next (h.endExecution st data).portNext)

/-- R151, R152, R155: what the cycles of the port do: a data read and a map read are read transfers, a masked write and a map
write are write transfers, of ascending word addresses. Before each transfer other masters may write bytes; a transfer that
ends OK reads or writes its word and the next follows; the first that fails ends the cycle with its outcome: a read brings
nothing, a write has written its word or has not. R44, R153, R155: from its read phase on the lock keeps out other masters,
every one of which is taken to honour it: model's choice (log entry 21). A list of transfers that runs out stands for transfers
that end OK with no other master about (log entry 4). -/
def Obligations.CyclesRunTheirTransfersInOrder : Prop :=
  (∀ (n : Nat) (w : MaskedWord) (ws : List MaskedWord) (a : Word) (m : List Host.Cell) (t : Transfer) (ts : List Transfer),
    readTransfers n a [] m =
      { outcome := .ok, words := (List.range n).map fun i => readWord m (a + BitVec.ofNat 32 (4 * i)), memory := m } ∧
    writeTransfers (w :: ws) a [] m = writeTransfers ws (a + 4#32) [] (writeLanes m a w.mask w.data) ∧
    writeTransfers [] a (t :: ts) m = (.ok, m) ∧
    readTransfers 0 a (t :: ts) m = { outcome := .ok, words := [], memory := m } ∧
    (let m1 := writeOthers t.others m
     (t.reply = .ok →
        (let rest := readTransfers n (a + 4#32) ts m1
         readTransfers (n + 1) a (t :: ts) m =
           { outcome := rest.outcome, words := if rest.outcome = .ok then readWord m1 a :: rest.words else []
             memory := rest.memory }) ∧
        writeTransfers (w :: ws) a (t :: ts) m = writeTransfers ws (a + 4#32) ts (writeLanes m1 a w.mask w.data)) ∧
     (t.reply ≠ .ok →
        readTransfers (n + 1) a (t :: ts) m = { outcome := t.reply, words := [], memory := m1 } ∧
          writeTransfers (w :: ws) a (t :: ts) m =
            (t.reply, if t.landed then writeLanes m1 a w.mask w.data else m1)))) ∧
  (∀ (os : List (Word × Byte)) (a : Word) (v : Byte) (m : List Host.Cell) (b : Nat), memoryWf m = true →
    writeOthers [] m = m ∧
    readByte (writeOthers (os ++ [(a, v)]) m) b = if b = a.toNat then v else readByte (writeOthers os m) b) ∧
  (∀ (c : Cycle) (ts : List Transfer) (m : List Host.Cell),
    (∀ n, c.request.kind = .dataRead n → c.run ts m = readTransfers n c.request.addr ts m) ∧
    (∀ p, c.request.kind = .mapRead p → c.run ts m = readTransfers 2 c.request.addr ts m) ∧
    (∀ ws, c.request.kind = .maskedWrite ws →
      c.run ts m =
        { outcome := (writeTransfers ws c.request.addr ts m).1, words := []
          memory := (writeTransfers ws c.request.addr ts m).2 }) ∧
    (∀ p e, c.request.kind = .mapWrite p e →
      c.run ts m =
        { outcome := (writeTransfers (mapEntryWords e) c.request.addr ts m).1, words := []
          memory := (writeTransfers (mapEntryWords e) c.request.addr ts m).2 }) ∧
    (∀ op t, c.request.kind = .locked op →
      (c.old ≠ none → c.run ts m = c.run (ts.map fun x => { x with others := [] }) m) ∧
      (c.old = none → c.run (t :: ts) m = c.run (t :: ts.map fun x => { x with others := [] }) m)))

/-- R30, R151, R176: a masked write of one word changes the bytes of the lanes in its mask, to its bytes, and no other
byte of local memory. R176, R3: an entry that a map write puts into memory is what a map read of the same place brings
back. -/
def Obligations.MaskedWritesAndMapEntriesInMemory : Prop :=
  (∀ (m : List Host.Cell) (a : Word) (mask : Lanes) (w : Word) (b : Nat), memoryWf m = true →
    (∀ n : Fin 4, mask.getLsbD n = true → b = (a + BitVec.ofNat 32 n.val).toNat →
      readByte (writeLanes m a mask w) b = w.extractLsb' (24 - 8 * n.val) 8) ∧
    ((∀ n : Fin 4, mask.getLsbD n = true → b ≠ (a + BitVec.ofNat 32 n.val).toNat) →
      readByte (writeLanes m a mask w) b = readByte m b)) ∧
  (∀ (e : MapEntry) (a : Word) (m : List Host.Cell), memoryWf m = true →
    let w := writeTransfers (mapEntryWords e) a [] m
    let r := readTransfers 2 a [] w.2
    w.1 = .ok ∧ r.outcome = .ok ∧ r.memory = w.2 ∧ mapEntryOf r.words = e)

/-- R44, R45, R153: the end of a locked cycle's read phase. With a value to store the cycle goes on to its write phase; a
COMPARE-SWAP that fails its comparison ends OK with the old value; an error ends MEMORY-ERROR with INBOUND-REJECTED and writes
nothing. R44, R46, R153, R155: the end of a locked cycle's write phase: no write of another master comes in since the read
phase, every one being taken to honour the lock (model's choice, log entry 21), the new value is in memory and the reply
carries the old one; after an error the word is as it was or new, and the reply is MEMORY-ERROR with INBOUND-REJECTED. What the
end of an execution does for the own station and for an orphan is stated with the ends of data cycles. -/
def Obligations.LockedCyclePhasesEnd : Prop :=
  (∀ (t : Transfer) (c : Cycle) (op : AtomicOp) (pre post : List ListEntry) (e : ListEntry) (s : State),
    s.pins.resetLow = false → s.port.current = some c → c.requester = .engine → c.discard = .clear → c.old = none →
    c.request.kind = .locked op → executes s.inbound.list pre e post →
    let h : State := { s with memory := writeOthers t.others s.memory }
    let old := readWord h.memory c.request.addr
    let other : Prop := e.source ≠ s.membership.own ∧ e.orphaned = false
    (t.reply = .ok → op.newValue old ≠ none →
      exec (.lockedReadPhaseEnd t) s = .next { h with port := { s.port with current := some { c with old := some old } } }) ∧
    (t.reply = .ok → op.newValue old = none →
      exec (.lockedReadPhaseEnd t) s = .next (h.endExecution .ok [old]).portNext ∧
      (other →
        exec (.lockedReadPhaseEnd t) s = .next
          (h.withList (pre ++ { e with state := .replyReady, status := some .ok, data := [old] } :: post)
            (s.inbound.replyOrder ++ [(e.source, e.tag)])).portNext)) ∧
    (t.reply ≠ .ok →
      exec (.lockedReadPhaseEnd t) s = .next (h.endExecution .memoryError []).portNext ∧
      (other →
        exec (.lockedReadPhaseEnd t) s = .next
          ((h.withList (pre ++ { e with state := .replyReady, status := some .memoryError, data := [] } :: post)
              (s.inbound.replyOrder ++ [(e.source, e.tag)])).addEvent
            { kind := .inboundRejected, station := some e.source, tag := some e.tag, slot := none, page := some e.page
              status := some .memoryError, address := e.localAddr.map .local32 }).portNext))) ∧
  (∀ (t : Transfer) (c : Cycle) (op : AtomicOp) (old v : Word) (pre post : List ListEntry) (e : ListEntry) (s : State),
    s.pins.resetLow = false → s.port.current = some c → c.requester = .engine → c.discard = .clear →
    c.old = some old → c.request.kind = .locked op → op.newValue old = some v →
    executes s.inbound.list pre e post →
    let stored : State := { s with memory := writeLanes s.memory c.request.addr Lanes.all v }
    let left : State := if t.landed then stored else s
    let other : Prop := e.source ≠ s.membership.own ∧ e.orphaned = false
    (t.reply = .ok →
      exec (.lockedWritePhaseEnd t) s = .next (stored.endExecution .ok [old]).portNext ∧
      (other →
        exec (.lockedWritePhaseEnd t) s = .next
          (stored.withList (pre ++ { e with state := .replyReady, status := some .ok, data := [old] } :: post)
            (s.inbound.replyOrder ++ [(e.source, e.tag)])).portNext)) ∧
    (t.reply ≠ .ok →
      exec (.lockedWritePhaseEnd t) s = .next (left.endExecution .memoryError []).portNext ∧
      (other →
        exec (.lockedWritePhaseEnd t) s = .next
          ((left.withList
              (pre ++ { e with state := .replyReady, status := some .memoryError, data := [] } :: post)
              (s.inbound.replyOrder ++ [(e.source, e.tag)])).addEvent
            { kind := .inboundRejected, station := some e.source, tag := some e.tag, slot := none, page := some e.page
              status := some .memoryError, address := e.localAddr.map .local32 }).portNext)))

/-- R39, R156, R157: the end of a marked cycle hands nothing over: it leaves what its transfers did in memory, removes the
orphan of a CONFLICT whose data cycle it was, with which a drain may end (R109), and the port starts what waits. R47: the
phases of a marked locked cycle end as those of any other, and its value is stored, no write of another master coming in
between (model's choice, log entry 21); a COMPARE-SWAP that fails its comparison and an error in either phase end it with
nothing handed over, the word of a failed write phase as it was or new. -/
def Obligations.MarkedCyclesHandNothingOver : Prop :=
  (∀ (ts : List Transfer) (c : Cycle) (s : State), s.pins.resetLow = false → s.port.current = some c →
    let h : State := { s with memory := (c.run ts s.memory).memory }
    (c.discard = .bySoftReset → exec (.discardedCycleEnd ts) s = .next h.portNext) ∧
    (c.discard = .byConflict → c.request.kind.isData = false → exec (.discardedCycleEnd ts) s = .next h.portNext) ∧
    (∀ pre e post, c.discard = .byConflict → c.request.kind.isData = true → executes s.inbound.list pre e post →
      exec (.discardedCycleEnd ts) s = .next (h.withList (pre ++ post) s.inbound.replyOrder).checkDrain.portNext)) ∧
  (∀ (t : Transfer) (c : Cycle) (op : AtomicOp) (s : State), s.pins.resetLow = false →
    s.port.current = some c → c.discard ≠ .clear → c.request.kind = .locked op →
    (c.old = none →
      let m := writeOthers t.others s.memory
      let old := readWord m c.request.addr
      let h : State := { s with memory := m }
      (∀ v, t.reply = .ok → op.newValue old = some v →
        exec (.lockedReadPhaseEnd t) s = .next
          { h with port := { s.port with current := some { c with old := some old } } }) ∧
      (t.reply ≠ .ok ∨ op.newValue old = none →
        (c.discard = .bySoftReset → exec (.lockedReadPhaseEnd t) s = .next h.portNext) ∧
        (∀ pre e post, c.discard = .byConflict → executes s.inbound.list pre e post →
          exec (.lockedReadPhaseEnd t) s = .next
            (h.withList (pre ++ post) s.inbound.replyOrder).checkDrain.portNext))) ∧
    (∀ old v, c.old = some old → op.newValue old = some v →
      let stored : State := { s with memory := writeLanes s.memory c.request.addr Lanes.all v }
      let h : State := if t.reply = .ok ∨ t.landed = true then stored else s
      (c.discard = .bySoftReset → exec (.lockedWritePhaseEnd t) s = .next h.portNext) ∧
      (∀ pre e post, c.discard = .byConflict → executes s.inbound.list pre e post →
        exec (.lockedWritePhaseEnd t) s = .next
          (h.withList (pre ++ post) s.inbound.replyOrder).checkDrain.portNext)))

/-! ## Invariants of every step -/

/-- 00_scope.md section 8, R5, R9, R21, R49, R122, R131, R159: every step keeps every collection within its bounds,
the overflow flag beside a record only, the Map Cache without two entries of a page, and local memory in its one form.
-/
def Obligations.EveryStepKeepsTheBounds : Prop :=
  ∀ (s t : State), s.bounded → step s = .next t → t.bounded

/-- R101, R110, R114, R118: every step keeps the limits in range, the own record SELF with count 0, every other
record's count below the threshold unless it is SILENT and equal to it if it is, and the Roster fresh in OFFLINE. -/
def Obligations.EveryStepKeepsTheRosterSound : Prop :=
  ∀ (s t : State), s.rosterSound → step s = .next t → t.rosterSound

/-- R20, R21, R39, R149: every step keeps at most one entry EXECUTING, at most one entry that is not orphaned for a
source and tag, and the filter record of a source and tag OPEN exactly when such an entry exists. -/
def Obligations.EveryStepKeepsFilterAndListInAgreement : Prop :=
  ∀ (s t : State), s.inboundSound → step s = .next t → t.inboundSound

/-- R60, R62, R71, R76, R109: every step keeps the queued order naming each QUEUED entry once and nothing else, the request
frame on the medium that of an ON-AIR entry, the Transaction Table empty outside ONLINE and DRAINING, and a LEAVE pending only
over an empty table and an empty Posted Write Buffer. -/
def Obligations.EveryStepKeepsTheQueuedOrderSound : Prop :=
  ∀ (s t : State), s.queueSound → step s = .next t → t.queueSound

/-- The state after reset meets the four invariants. -/
def Obligations.ResetMeetsTheInvariants : Prop :=
  State.reset.bounded ∧ State.reset.rosterSound ∧ State.reset.inboundSound ∧ State.reset.queueSound
end

