-- ==== Sys2Proof/Laws/State.lean ====
section
/-! SUPPORT. One lemma per field of State for each operation that sets one part of it: the part set reads as it was set,
and every other part is unchanged. -/

namespace Sys2Proof.Machine

variable (s : State)

/-! ## State.answerHost -/

@[simp] theorem State.answerHost_membership (r : HostReply) : (s.answerHost r).membership = s.membership := rfl
@[simp] theorem State.answerHost_link (r : HostReply) : (s.answerHost r).link = s.link := rfl
@[simp] theorem State.answerHost_outbound (r : HostReply) : (s.answerHost r).outbound = s.outbound := rfl
@[simp] theorem State.answerHost_inbound (r : HostReply) : (s.answerHost r).inbound = s.inbound := rfl
@[simp] theorem State.answerHost_map (r : HostReply) : (s.answerHost r).map = s.map := rfl
@[simp] theorem State.answerHost_signals (r : HostReply) : (s.answerHost r).signals = s.signals := rfl
@[simp] theorem State.answerHost_aperture (r : HostReply) : (s.answerHost r).aperture = s.aperture := rfl
@[simp] theorem State.answerHost_slots (r : HostReply) : (s.answerHost r).slots = s.slots := rfl
@[simp] theorem State.answerHost_port (r : HostReply) : (s.answerHost r).port = s.port := rfl
@[simp] theorem State.answerHost_events (r : HostReply) : (s.answerHost r).events = s.events := rfl
@[simp] theorem State.answerHost_interrupt (r : HostReply) : (s.answerHost r).interrupt = s.interrupt := rfl
@[simp] theorem State.answerHost_host (r : HostReply) : (s.answerHost r).host = { s.host with reply := some r } := rfl
@[simp] theorem State.answerHost_pins (r : HostReply) : (s.answerHost r).pins = s.pins := rfl
@[simp] theorem State.answerHost_memory (r : HostReply) : (s.answerHost r).memory = s.memory := rfl
@[simp] theorem State.answerHost_pending (r : HostReply) : (s.answerHost r).pending = s.pending := rfl

/-! ## State.releaseHost -/

@[simp] theorem State.releaseHost_membership (r : HostReply) : (s.releaseHost r).membership = s.membership := rfl
@[simp] theorem State.releaseHost_link (r : HostReply) : (s.releaseHost r).link = s.link := rfl
@[simp] theorem State.releaseHost_outbound (r : HostReply) : (s.releaseHost r).outbound = s.outbound := rfl
@[simp] theorem State.releaseHost_inbound (r : HostReply) : (s.releaseHost r).inbound = s.inbound := rfl
@[simp] theorem State.releaseHost_map (r : HostReply) : (s.releaseHost r).map = s.map := rfl
@[simp] theorem State.releaseHost_signals (r : HostReply) : (s.releaseHost r).signals = s.signals := rfl
@[simp] theorem State.releaseHost_aperture (r : HostReply) : (s.releaseHost r).aperture = s.aperture := rfl
@[simp] theorem State.releaseHost_slots (r : HostReply) : (s.releaseHost r).slots = s.slots := rfl
@[simp] theorem State.releaseHost_port (r : HostReply) : (s.releaseHost r).port = s.port := rfl
@[simp] theorem State.releaseHost_events (r : HostReply) : (s.releaseHost r).events = s.events := rfl
@[simp] theorem State.releaseHost_interrupt (r : HostReply) : (s.releaseHost r).interrupt = s.interrupt := rfl
@[simp] theorem State.releaseHost_host (r : HostReply) :
    (s.releaseHost r).host =
      { s.host with held := none, reply := some r } := rfl
@[simp] theorem State.releaseHost_pins (r : HostReply) : (s.releaseHost r).pins = s.pins := rfl
@[simp] theorem State.releaseHost_memory (r : HostReply) : (s.releaseHost r).memory = s.memory := rfl
@[simp] theorem State.releaseHost_pending (r : HostReply) : (s.releaseHost r).pending = s.pending := rfl

/-! ## State.holdHost -/

@[simp] theorem State.holdHost_membership (h : HeldAccess) : (s.holdHost h).membership = s.membership := rfl
@[simp] theorem State.holdHost_link (h : HeldAccess) : (s.holdHost h).link = s.link := rfl
@[simp] theorem State.holdHost_outbound (h : HeldAccess) : (s.holdHost h).outbound = s.outbound := rfl
@[simp] theorem State.holdHost_inbound (h : HeldAccess) : (s.holdHost h).inbound = s.inbound := rfl
@[simp] theorem State.holdHost_map (h : HeldAccess) : (s.holdHost h).map = s.map := rfl
@[simp] theorem State.holdHost_signals (h : HeldAccess) : (s.holdHost h).signals = s.signals := rfl
@[simp] theorem State.holdHost_aperture (h : HeldAccess) : (s.holdHost h).aperture = s.aperture := rfl
@[simp] theorem State.holdHost_slots (h : HeldAccess) : (s.holdHost h).slots = s.slots := rfl
@[simp] theorem State.holdHost_port (h : HeldAccess) : (s.holdHost h).port = s.port := rfl
@[simp] theorem State.holdHost_events (h : HeldAccess) : (s.holdHost h).events = s.events := rfl
@[simp] theorem State.holdHost_interrupt (h : HeldAccess) : (s.holdHost h).interrupt = s.interrupt := rfl
@[simp] theorem State.holdHost_host (h : HeldAccess) : (s.holdHost h).host = { s.host with held := some h } := rfl
@[simp] theorem State.holdHost_pins (h : HeldAccess) : (s.holdHost h).pins = s.pins := rfl
@[simp] theorem State.holdHost_memory (h : HeldAccess) : (s.holdHost h).memory = s.memory := rfl
@[simp] theorem State.holdHost_pending (h : HeldAccess) : (s.holdHost h).pending = s.pending := rfl

/-! ## State.waitOnBus -/

@[simp] theorem State.waitOnBus_membership (c : Instr) : (s.waitOnBus c).membership = s.membership := rfl
@[simp] theorem State.waitOnBus_link (c : Instr) : (s.waitOnBus c).link = s.link := rfl
@[simp] theorem State.waitOnBus_outbound (c : Instr) : (s.waitOnBus c).outbound = s.outbound := rfl
@[simp] theorem State.waitOnBus_inbound (c : Instr) : (s.waitOnBus c).inbound = s.inbound := rfl
@[simp] theorem State.waitOnBus_map (c : Instr) : (s.waitOnBus c).map = s.map := rfl
@[simp] theorem State.waitOnBus_signals (c : Instr) : (s.waitOnBus c).signals = s.signals := rfl
@[simp] theorem State.waitOnBus_aperture (c : Instr) : (s.waitOnBus c).aperture = s.aperture := rfl
@[simp] theorem State.waitOnBus_slots (c : Instr) : (s.waitOnBus c).slots = s.slots := rfl
@[simp] theorem State.waitOnBus_port (c : Instr) : (s.waitOnBus c).port = s.port := rfl
@[simp] theorem State.waitOnBus_events (c : Instr) : (s.waitOnBus c).events = s.events := rfl
@[simp] theorem State.waitOnBus_interrupt (c : Instr) : (s.waitOnBus c).interrupt = s.interrupt := rfl
@[simp] theorem State.waitOnBus_host (c : Instr) :
    (s.waitOnBus c).host =
      { s.host with waiting := s.host.waiting ++ [c] } := rfl
@[simp] theorem State.waitOnBus_pins (c : Instr) : (s.waitOnBus c).pins = s.pins := rfl
@[simp] theorem State.waitOnBus_memory (c : Instr) : (s.waitOnBus c).memory = s.memory := rfl
@[simp] theorem State.waitOnBus_pending (c : Instr) : (s.waitOnBus c).pending = s.pending := rfl

/-! ## State.withWaiting -/

@[simp] theorem State.withWaiting_membership (ws : List Instr) : (s.withWaiting ws).membership = s.membership := rfl
@[simp] theorem State.withWaiting_link (ws : List Instr) : (s.withWaiting ws).link = s.link := rfl
@[simp] theorem State.withWaiting_outbound (ws : List Instr) : (s.withWaiting ws).outbound = s.outbound := rfl
@[simp] theorem State.withWaiting_inbound (ws : List Instr) : (s.withWaiting ws).inbound = s.inbound := rfl
@[simp] theorem State.withWaiting_map (ws : List Instr) : (s.withWaiting ws).map = s.map := rfl
@[simp] theorem State.withWaiting_signals (ws : List Instr) : (s.withWaiting ws).signals = s.signals := rfl
@[simp] theorem State.withWaiting_aperture (ws : List Instr) : (s.withWaiting ws).aperture = s.aperture := rfl
@[simp] theorem State.withWaiting_slots (ws : List Instr) : (s.withWaiting ws).slots = s.slots := rfl
@[simp] theorem State.withWaiting_port (ws : List Instr) : (s.withWaiting ws).port = s.port := rfl
@[simp] theorem State.withWaiting_events (ws : List Instr) : (s.withWaiting ws).events = s.events := rfl
@[simp] theorem State.withWaiting_interrupt (ws : List Instr) : (s.withWaiting ws).interrupt = s.interrupt := rfl
@[simp] theorem State.withWaiting_host (ws : List Instr) :
    (s.withWaiting ws).host =
      { s.host with waiting := ws } := rfl
@[simp] theorem State.withWaiting_pins (ws : List Instr) : (s.withWaiting ws).pins = s.pins := rfl
@[simp] theorem State.withWaiting_memory (ws : List Instr) : (s.withWaiting ws).memory = s.memory := rfl
@[simp] theorem State.withWaiting_pending (ws : List Instr) : (s.withWaiting ws).pending = s.pending := rfl

/-! ## State.addEvent -/

@[simp] theorem State.addEvent_membership (r : EventRecord) : (s.addEvent r).membership = s.membership := rfl
@[simp] theorem State.addEvent_link (r : EventRecord) : (s.addEvent r).link = s.link := rfl
@[simp] theorem State.addEvent_outbound (r : EventRecord) : (s.addEvent r).outbound = s.outbound := rfl
@[simp] theorem State.addEvent_inbound (r : EventRecord) : (s.addEvent r).inbound = s.inbound := rfl
@[simp] theorem State.addEvent_map (r : EventRecord) : (s.addEvent r).map = s.map := rfl
@[simp] theorem State.addEvent_signals (r : EventRecord) : (s.addEvent r).signals = s.signals := rfl
@[simp] theorem State.addEvent_aperture (r : EventRecord) : (s.addEvent r).aperture = s.aperture := rfl
@[simp] theorem State.addEvent_slots (r : EventRecord) : (s.addEvent r).slots = s.slots := rfl
@[simp] theorem State.addEvent_port (r : EventRecord) : (s.addEvent r).port = s.port := rfl
@[simp] theorem State.addEvent_events (r : EventRecord) : (s.addEvent r).events = s.events.append r := rfl
@[simp] theorem State.addEvent_interrupt (r : EventRecord) : (s.addEvent r).interrupt = s.interrupt := rfl
@[simp] theorem State.addEvent_host (r : EventRecord) : (s.addEvent r).host = s.host := rfl
@[simp] theorem State.addEvent_pins (r : EventRecord) : (s.addEvent r).pins = s.pins := rfl
@[simp] theorem State.addEvent_memory (r : EventRecord) : (s.addEvent r).memory = s.memory := rfl
@[simp] theorem State.addEvent_pending (r : EventRecord) : (s.addEvent r).pending = s.pending := rfl

/-! ## State.setRoster -/

@[simp] theorem State.setRoster_membership (i : Station) (r : RosterRecord) :
    (s.setRoster i r).membership =
      { s.membership with roster := s.membership.roster.set i r } := rfl
@[simp] theorem State.setRoster_link (i : Station) (r : RosterRecord) : (s.setRoster i r).link = s.link := rfl
@[simp] theorem State.setRoster_outbound (i : Station) (r : RosterRecord) :
    (s.setRoster i r).outbound =
      s.outbound := rfl
@[simp] theorem State.setRoster_inbound (i : Station) (r : RosterRecord) :
    (s.setRoster i r).inbound =
      s.inbound := rfl
@[simp] theorem State.setRoster_map (i : Station) (r : RosterRecord) : (s.setRoster i r).map = s.map := rfl
@[simp] theorem State.setRoster_signals (i : Station) (r : RosterRecord) :
    (s.setRoster i r).signals =
      s.signals := rfl
@[simp] theorem State.setRoster_aperture (i : Station) (r : RosterRecord) :
    (s.setRoster i r).aperture =
      s.aperture := rfl
@[simp] theorem State.setRoster_slots (i : Station) (r : RosterRecord) : (s.setRoster i r).slots = s.slots := rfl
@[simp] theorem State.setRoster_port (i : Station) (r : RosterRecord) : (s.setRoster i r).port = s.port := rfl
@[simp] theorem State.setRoster_events (i : Station) (r : RosterRecord) : (s.setRoster i r).events = s.events := rfl
@[simp] theorem State.setRoster_interrupt (i : Station) (r : RosterRecord) :
    (s.setRoster i r).interrupt =
      s.interrupt := rfl
@[simp] theorem State.setRoster_host (i : Station) (r : RosterRecord) : (s.setRoster i r).host = s.host := rfl
@[simp] theorem State.setRoster_pins (i : Station) (r : RosterRecord) : (s.setRoster i r).pins = s.pins := rfl
@[simp] theorem State.setRoster_memory (i : Station) (r : RosterRecord) : (s.setRoster i r).memory = s.memory := rfl
@[simp] theorem State.setRoster_pending (i : Station) (r : RosterRecord) :
    (s.setRoster i r).pending =
      s.pending := rfl

/-! ## State.setFilter -/

@[simp] theorem State.setFilter_membership (i : Station) (t : Tag) (r : FilterRecord) :
    (s.setFilter i t r).membership =
      s.membership := rfl
@[simp] theorem State.setFilter_link (i : Station) (t : Tag) (r : FilterRecord) :
    (s.setFilter i t r).link =
      s.link := rfl
@[simp] theorem State.setFilter_outbound (i : Station) (t : Tag) (r : FilterRecord) :
    (s.setFilter i t r).outbound =
      s.outbound := rfl
@[simp] theorem State.setFilter_inbound (i : Station) (t : Tag) (r : FilterRecord) :
    (s.setFilter i t r).inbound =
      { s.inbound with filter := s.inbound.filter.set i (s.inbound.filter[i].set t r) } := rfl
@[simp] theorem State.setFilter_map (i : Station) (t : Tag) (r : FilterRecord) :
    (s.setFilter i t r).map =
      s.map := rfl
@[simp] theorem State.setFilter_signals (i : Station) (t : Tag) (r : FilterRecord) :
    (s.setFilter i t r).signals =
      s.signals := rfl
@[simp] theorem State.setFilter_aperture (i : Station) (t : Tag) (r : FilterRecord) :
    (s.setFilter i t r).aperture =
      s.aperture := rfl
@[simp] theorem State.setFilter_slots (i : Station) (t : Tag) (r : FilterRecord) :
    (s.setFilter i t r).slots =
      s.slots := rfl
@[simp] theorem State.setFilter_port (i : Station) (t : Tag) (r : FilterRecord) :
    (s.setFilter i t r).port =
      s.port := rfl
@[simp] theorem State.setFilter_events (i : Station) (t : Tag) (r : FilterRecord) :
    (s.setFilter i t r).events =
      s.events := rfl
@[simp] theorem State.setFilter_interrupt (i : Station) (t : Tag) (r : FilterRecord) :
    (s.setFilter i t r).interrupt =
      s.interrupt := rfl
@[simp] theorem State.setFilter_host (i : Station) (t : Tag) (r : FilterRecord) :
    (s.setFilter i t r).host =
      s.host := rfl
@[simp] theorem State.setFilter_pins (i : Station) (t : Tag) (r : FilterRecord) :
    (s.setFilter i t r).pins =
      s.pins := rfl
@[simp] theorem State.setFilter_memory (i : Station) (t : Tag) (r : FilterRecord) :
    (s.setFilter i t r).memory =
      s.memory := rfl
@[simp] theorem State.setFilter_pending (i : Station) (t : Tag) (r : FilterRecord) :
    (s.setFilter i t r).pending =
      s.pending := rfl

/-! ## State.setEnable -/

@[simp] theorem State.setEnable_membership (b : Bool) : (s.setEnable b).membership = s.membership := rfl
@[simp] theorem State.setEnable_link (b : Bool) : (s.setEnable b).link = s.link := rfl
@[simp] theorem State.setEnable_outbound (b : Bool) : (s.setEnable b).outbound = s.outbound := rfl
@[simp] theorem State.setEnable_inbound (b : Bool) : (s.setEnable b).inbound = { s.inbound with enable := b } := rfl
@[simp] theorem State.setEnable_map (b : Bool) : (s.setEnable b).map = s.map := rfl
@[simp] theorem State.setEnable_signals (b : Bool) : (s.setEnable b).signals = s.signals := rfl
@[simp] theorem State.setEnable_aperture (b : Bool) : (s.setEnable b).aperture = s.aperture := rfl
@[simp] theorem State.setEnable_slots (b : Bool) : (s.setEnable b).slots = s.slots := rfl
@[simp] theorem State.setEnable_port (b : Bool) : (s.setEnable b).port = s.port := rfl
@[simp] theorem State.setEnable_events (b : Bool) : (s.setEnable b).events = s.events := rfl
@[simp] theorem State.setEnable_interrupt (b : Bool) : (s.setEnable b).interrupt = s.interrupt := rfl
@[simp] theorem State.setEnable_host (b : Bool) : (s.setEnable b).host = s.host := rfl
@[simp] theorem State.setEnable_pins (b : Bool) : (s.setEnable b).pins = s.pins := rfl
@[simp] theorem State.setEnable_memory (b : Bool) : (s.setEnable b).memory = s.memory := rfl
@[simp] theorem State.setEnable_pending (b : Bool) : (s.setEnable b).pending = s.pending := rfl

/-! ## State.removeExecuting -/

@[simp] theorem State.removeExecuting_membership : (s.removeExecuting).membership = s.membership := rfl
@[simp] theorem State.removeExecuting_link : (s.removeExecuting).link = s.link := rfl
@[simp] theorem State.removeExecuting_outbound : (s.removeExecuting).outbound = s.outbound := rfl
@[simp] theorem State.removeExecuting_inbound :
    (s.removeExecuting).inbound =
      { s.inbound with list := s.inbound.list.filter fun e => decide (e.state ≠ .executing) } := rfl
@[simp] theorem State.removeExecuting_map : (s.removeExecuting).map = s.map := rfl
@[simp] theorem State.removeExecuting_signals : (s.removeExecuting).signals = s.signals := rfl
@[simp] theorem State.removeExecuting_aperture : (s.removeExecuting).aperture = s.aperture := rfl
@[simp] theorem State.removeExecuting_slots : (s.removeExecuting).slots = s.slots := rfl
@[simp] theorem State.removeExecuting_port : (s.removeExecuting).port = s.port := rfl
@[simp] theorem State.removeExecuting_events : (s.removeExecuting).events = s.events := rfl
@[simp] theorem State.removeExecuting_interrupt : (s.removeExecuting).interrupt = s.interrupt := rfl
@[simp] theorem State.removeExecuting_host : (s.removeExecuting).host = s.host := rfl
@[simp] theorem State.removeExecuting_pins : (s.removeExecuting).pins = s.pins := rfl
@[simp] theorem State.removeExecuting_memory : (s.removeExecuting).memory = s.memory := rfl
@[simp] theorem State.removeExecuting_pending : (s.removeExecuting).pending = s.pending := rfl

/-! ## State.updateExecuting -/

@[simp] theorem State.updateExecuting_membership (f : ListEntry → ListEntry) :
    (s.updateExecuting f).membership =
      s.membership := rfl
@[simp] theorem State.updateExecuting_link (f : ListEntry → ListEntry) : (s.updateExecuting f).link = s.link := rfl
@[simp] theorem State.updateExecuting_outbound (f : ListEntry → ListEntry) :
    (s.updateExecuting f).outbound =
      s.outbound := rfl
@[simp] theorem State.updateExecuting_inbound (f : ListEntry → ListEntry) :
    (s.updateExecuting f).inbound =
      { s.inbound with list := s.inbound.list.map fun e => if e.state = .executing then f e else e } := rfl
@[simp] theorem State.updateExecuting_map (f : ListEntry → ListEntry) : (s.updateExecuting f).map = s.map := rfl
@[simp] theorem State.updateExecuting_signals (f : ListEntry → ListEntry) :
    (s.updateExecuting f).signals =
      s.signals := rfl
@[simp] theorem State.updateExecuting_aperture (f : ListEntry → ListEntry) :
    (s.updateExecuting f).aperture =
      s.aperture := rfl
@[simp] theorem State.updateExecuting_slots (f : ListEntry → ListEntry) : (s.updateExecuting f).slots = s.slots := rfl
@[simp] theorem State.updateExecuting_port (f : ListEntry → ListEntry) : (s.updateExecuting f).port = s.port := rfl
@[simp] theorem State.updateExecuting_events (f : ListEntry → ListEntry) :
    (s.updateExecuting f).events =
      s.events := rfl
@[simp] theorem State.updateExecuting_interrupt (f : ListEntry → ListEntry) :
    (s.updateExecuting f).interrupt =
      s.interrupt := rfl
@[simp] theorem State.updateExecuting_host (f : ListEntry → ListEntry) : (s.updateExecuting f).host = s.host := rfl
@[simp] theorem State.updateExecuting_pins (f : ListEntry → ListEntry) : (s.updateExecuting f).pins = s.pins := rfl
@[simp] theorem State.updateExecuting_memory (f : ListEntry → ListEntry) :
    (s.updateExecuting f).memory =
      s.memory := rfl
@[simp] theorem State.updateExecuting_pending (f : ListEntry → ListEntry) :
    (s.updateExecuting f).pending =
      s.pending := rfl

/-! ## State.withList -/

@[simp] theorem State.withList_membership (list : List ListEntry) (order : List (Station × Tag)) :
    (s.withList list order).membership =
      s.membership := rfl
@[simp] theorem State.withList_link (list : List ListEntry) (order : List (Station × Tag)) :
    (s.withList list order).link =
      s.link := rfl
@[simp] theorem State.withList_outbound (list : List ListEntry) (order : List (Station × Tag)) :
    (s.withList list order).outbound =
      s.outbound := rfl
@[simp] theorem State.withList_inbound (list : List ListEntry) (order : List (Station × Tag)) :
    (s.withList list order).inbound =
      { s.inbound with list := list, replyOrder := order } := rfl
@[simp] theorem State.withList_map (list : List ListEntry) (order : List (Station × Tag)) :
    (s.withList list order).map =
      s.map := rfl
@[simp] theorem State.withList_signals (list : List ListEntry) (order : List (Station × Tag)) :
    (s.withList list order).signals =
      s.signals := rfl
@[simp] theorem State.withList_aperture (list : List ListEntry) (order : List (Station × Tag)) :
    (s.withList list order).aperture =
      s.aperture := rfl
@[simp] theorem State.withList_slots (list : List ListEntry) (order : List (Station × Tag)) :
    (s.withList list order).slots =
      s.slots := rfl
@[simp] theorem State.withList_port (list : List ListEntry) (order : List (Station × Tag)) :
    (s.withList list order).port =
      s.port := rfl
@[simp] theorem State.withList_events (list : List ListEntry) (order : List (Station × Tag)) :
    (s.withList list order).events =
      s.events := rfl
@[simp] theorem State.withList_interrupt (list : List ListEntry) (order : List (Station × Tag)) :
    (s.withList list order).interrupt =
      s.interrupt := rfl
@[simp] theorem State.withList_host (list : List ListEntry) (order : List (Station × Tag)) :
    (s.withList list order).host =
      s.host := rfl
@[simp] theorem State.withList_pins (list : List ListEntry) (order : List (Station × Tag)) :
    (s.withList list order).pins =
      s.pins := rfl
@[simp] theorem State.withList_memory (list : List ListEntry) (order : List (Station × Tag)) :
    (s.withList list order).memory =
      s.memory := rfl
@[simp] theorem State.withList_pending (list : List ListEntry) (order : List (Station × Tag)) :
    (s.withList list order).pending =
      s.pending := rfl

/-! ## State.setEntry -/

@[simp] theorem State.setEntry_membership (t : Tag) (e : TransEntry) :
    (s.setEntry t e).membership =
      s.membership := rfl
@[simp] theorem State.setEntry_link (t : Tag) (e : TransEntry) : (s.setEntry t e).link = s.link := rfl
@[simp] theorem State.setEntry_outbound (t : Tag) (e : TransEntry) :
    (s.setEntry t e).outbound =
      { s.outbound with table := s.outbound.table.set t (some e) } := rfl
@[simp] theorem State.setEntry_inbound (t : Tag) (e : TransEntry) : (s.setEntry t e).inbound = s.inbound := rfl
@[simp] theorem State.setEntry_map (t : Tag) (e : TransEntry) : (s.setEntry t e).map = s.map := rfl
@[simp] theorem State.setEntry_signals (t : Tag) (e : TransEntry) : (s.setEntry t e).signals = s.signals := rfl
@[simp] theorem State.setEntry_aperture (t : Tag) (e : TransEntry) : (s.setEntry t e).aperture = s.aperture := rfl
@[simp] theorem State.setEntry_slots (t : Tag) (e : TransEntry) : (s.setEntry t e).slots = s.slots := rfl
@[simp] theorem State.setEntry_port (t : Tag) (e : TransEntry) : (s.setEntry t e).port = s.port := rfl
@[simp] theorem State.setEntry_events (t : Tag) (e : TransEntry) : (s.setEntry t e).events = s.events := rfl
@[simp] theorem State.setEntry_interrupt (t : Tag) (e : TransEntry) : (s.setEntry t e).interrupt = s.interrupt := rfl
@[simp] theorem State.setEntry_host (t : Tag) (e : TransEntry) : (s.setEntry t e).host = s.host := rfl
@[simp] theorem State.setEntry_pins (t : Tag) (e : TransEntry) : (s.setEntry t e).pins = s.pins := rfl
@[simp] theorem State.setEntry_memory (t : Tag) (e : TransEntry) : (s.setEntry t e).memory = s.memory := rfl
@[simp] theorem State.setEntry_pending (t : Tag) (e : TransEntry) : (s.setEntry t e).pending = s.pending := rfl

/-! ## State.freeEntry -/

@[simp] theorem State.freeEntry_membership (t : Tag) : (s.freeEntry t).membership = s.membership := rfl
@[simp] theorem State.freeEntry_link (t : Tag) : (s.freeEntry t).link = s.link := rfl
@[simp] theorem State.freeEntry_outbound (t : Tag) :
    (s.freeEntry t).outbound =
      { s.outbound with table := s.outbound.table.set t none, queued := s.outbound.queued.filter fun u => decide (u ≠ t) } := rfl
@[simp] theorem State.freeEntry_inbound (t : Tag) : (s.freeEntry t).inbound = s.inbound := rfl
@[simp] theorem State.freeEntry_map (t : Tag) : (s.freeEntry t).map = s.map := rfl
@[simp] theorem State.freeEntry_signals (t : Tag) : (s.freeEntry t).signals = s.signals := rfl
@[simp] theorem State.freeEntry_aperture (t : Tag) : (s.freeEntry t).aperture = s.aperture := rfl
@[simp] theorem State.freeEntry_slots (t : Tag) : (s.freeEntry t).slots = s.slots := rfl
@[simp] theorem State.freeEntry_port (t : Tag) : (s.freeEntry t).port = s.port := rfl
@[simp] theorem State.freeEntry_events (t : Tag) : (s.freeEntry t).events = s.events := rfl
@[simp] theorem State.freeEntry_interrupt (t : Tag) : (s.freeEntry t).interrupt = s.interrupt := rfl
@[simp] theorem State.freeEntry_host (t : Tag) : (s.freeEntry t).host = s.host := rfl
@[simp] theorem State.freeEntry_pins (t : Tag) : (s.freeEntry t).pins = s.pins := rfl
@[simp] theorem State.freeEntry_memory (t : Tag) : (s.freeEntry t).memory = s.memory := rfl
@[simp] theorem State.freeEntry_pending (t : Tag) : (s.freeEntry t).pending = s.pending := rfl

/-! ## State.setSlot -/

@[simp] theorem State.setSlot_membership (k : SlotNo) (sl : Slot) : (s.setSlot k sl).membership = s.membership := rfl
@[simp] theorem State.setSlot_link (k : SlotNo) (sl : Slot) : (s.setSlot k sl).link = s.link := rfl
@[simp] theorem State.setSlot_outbound (k : SlotNo) (sl : Slot) : (s.setSlot k sl).outbound = s.outbound := rfl
@[simp] theorem State.setSlot_inbound (k : SlotNo) (sl : Slot) : (s.setSlot k sl).inbound = s.inbound := rfl
@[simp] theorem State.setSlot_map (k : SlotNo) (sl : Slot) : (s.setSlot k sl).map = s.map := rfl
@[simp] theorem State.setSlot_signals (k : SlotNo) (sl : Slot) : (s.setSlot k sl).signals = s.signals := rfl
@[simp] theorem State.setSlot_aperture (k : SlotNo) (sl : Slot) : (s.setSlot k sl).aperture = s.aperture := rfl
@[simp] theorem State.setSlot_slots (k : SlotNo) (sl : Slot) : (s.setSlot k sl).slots = s.slots.set k sl := rfl
@[simp] theorem State.setSlot_port (k : SlotNo) (sl : Slot) : (s.setSlot k sl).port = s.port := rfl
@[simp] theorem State.setSlot_events (k : SlotNo) (sl : Slot) : (s.setSlot k sl).events = s.events := rfl
@[simp] theorem State.setSlot_interrupt (k : SlotNo) (sl : Slot) : (s.setSlot k sl).interrupt = s.interrupt := rfl
@[simp] theorem State.setSlot_host (k : SlotNo) (sl : Slot) : (s.setSlot k sl).host = s.host := rfl
@[simp] theorem State.setSlot_pins (k : SlotNo) (sl : Slot) : (s.setSlot k sl).pins = s.pins := rfl
@[simp] theorem State.setSlot_memory (k : SlotNo) (sl : Slot) : (s.setSlot k sl).memory = s.memory := rfl
@[simp] theorem State.setSlot_pending (k : SlotNo) (sl : Slot) : (s.setSlot k sl).pending = s.pending := rfl

/-! ## State.drive -/

@[simp] theorem State.drive_membership (code : AckCode) : (s.drive code).membership = s.membership := rfl
@[simp] theorem State.drive_link (code : AckCode) :
    (s.drive code).link =
      { s.link with driving := if code = .nothing then none else some code } := rfl
@[simp] theorem State.drive_outbound (code : AckCode) : (s.drive code).outbound = s.outbound := rfl
@[simp] theorem State.drive_inbound (code : AckCode) : (s.drive code).inbound = s.inbound := rfl
@[simp] theorem State.drive_map (code : AckCode) : (s.drive code).map = s.map := rfl
@[simp] theorem State.drive_signals (code : AckCode) : (s.drive code).signals = s.signals := rfl
@[simp] theorem State.drive_aperture (code : AckCode) : (s.drive code).aperture = s.aperture := rfl
@[simp] theorem State.drive_slots (code : AckCode) : (s.drive code).slots = s.slots := rfl
@[simp] theorem State.drive_port (code : AckCode) : (s.drive code).port = s.port := rfl
@[simp] theorem State.drive_events (code : AckCode) : (s.drive code).events = s.events := rfl
@[simp] theorem State.drive_interrupt (code : AckCode) : (s.drive code).interrupt = s.interrupt := rfl
@[simp] theorem State.drive_host (code : AckCode) : (s.drive code).host = s.host := rfl
@[simp] theorem State.drive_pins (code : AckCode) : (s.drive code).pins = s.pins := rfl
@[simp] theorem State.drive_memory (code : AckCode) : (s.drive code).memory = s.memory := rfl
@[simp] theorem State.drive_pending (code : AckCode) : (s.drive code).pending = s.pending := rfl

/-! ## State.becomeListener -/

@[simp] theorem State.becomeListener_membership : (s.becomeListener).membership = s.membership := rfl
@[simp] theorem State.becomeListener_link :
    (s.becomeListener).link =
      { s.link with phase := .frame, receiveBuffer := .filling } := rfl
@[simp] theorem State.becomeListener_outbound : (s.becomeListener).outbound = s.outbound := rfl
@[simp] theorem State.becomeListener_inbound : (s.becomeListener).inbound = s.inbound := rfl
@[simp] theorem State.becomeListener_map : (s.becomeListener).map = s.map := rfl
@[simp] theorem State.becomeListener_signals : (s.becomeListener).signals = s.signals := rfl
@[simp] theorem State.becomeListener_aperture : (s.becomeListener).aperture = s.aperture := rfl
@[simp] theorem State.becomeListener_slots : (s.becomeListener).slots = s.slots := rfl
@[simp] theorem State.becomeListener_port : (s.becomeListener).port = s.port := rfl
@[simp] theorem State.becomeListener_events : (s.becomeListener).events = s.events := rfl
@[simp] theorem State.becomeListener_interrupt : (s.becomeListener).interrupt = s.interrupt := rfl
@[simp] theorem State.becomeListener_host : (s.becomeListener).host = s.host := rfl
@[simp] theorem State.becomeListener_pins : (s.becomeListener).pins = s.pins := rfl
@[simp] theorem State.becomeListener_memory : (s.becomeListener).memory = s.memory := rfl
@[simp] theorem State.becomeListener_pending : (s.becomeListener).pending = s.pending := rfl

/-! ## State.afterSlot -/

@[simp] theorem State.afterSlot_membership (spends : Bool) : (s.afterSlot spends).membership = s.membership := rfl
@[simp] theorem State.afterSlot_link (spends : Bool) :
    (s.afterSlot spends).link =
      { s.link with phase := .ending 1, idleLength := 0, spent := s.link.spent || spends, receiveBuffer := .free } := rfl
@[simp] theorem State.afterSlot_outbound (spends : Bool) : (s.afterSlot spends).outbound = s.outbound := rfl
@[simp] theorem State.afterSlot_inbound (spends : Bool) : (s.afterSlot spends).inbound = s.inbound := rfl
@[simp] theorem State.afterSlot_map (spends : Bool) : (s.afterSlot spends).map = s.map := rfl
@[simp] theorem State.afterSlot_signals (spends : Bool) : (s.afterSlot spends).signals = s.signals := rfl
@[simp] theorem State.afterSlot_aperture (spends : Bool) : (s.afterSlot spends).aperture = s.aperture := rfl
@[simp] theorem State.afterSlot_slots (spends : Bool) : (s.afterSlot spends).slots = s.slots := rfl
@[simp] theorem State.afterSlot_port (spends : Bool) : (s.afterSlot spends).port = s.port := rfl
@[simp] theorem State.afterSlot_events (spends : Bool) : (s.afterSlot spends).events = s.events := rfl
@[simp] theorem State.afterSlot_interrupt (spends : Bool) : (s.afterSlot spends).interrupt = s.interrupt := rfl
@[simp] theorem State.afterSlot_host (spends : Bool) : (s.afterSlot spends).host = s.host := rfl
@[simp] theorem State.afterSlot_pins (spends : Bool) : (s.afterSlot spends).pins = s.pins := rfl
@[simp] theorem State.afterSlot_memory (spends : Bool) : (s.afterSlot spends).memory = s.memory := rfl
@[simp] theorem State.afterSlot_pending (spends : Bool) : (s.afterSlot spends).pending = s.pending := rfl

/-! ## State.afterDelimiter -/

@[simp] theorem State.afterDelimiter_membership : (s.afterDelimiter).membership = s.membership := rfl
@[simp] theorem State.afterDelimiter_link :
    (s.afterDelimiter).link =
      { s.link with phase := .idle, idleLength := 0, receiveBuffer := .free } := rfl
@[simp] theorem State.afterDelimiter_outbound : (s.afterDelimiter).outbound = s.outbound := rfl
@[simp] theorem State.afterDelimiter_inbound : (s.afterDelimiter).inbound = s.inbound := rfl
@[simp] theorem State.afterDelimiter_map : (s.afterDelimiter).map = s.map := rfl
@[simp] theorem State.afterDelimiter_signals : (s.afterDelimiter).signals = s.signals := rfl
@[simp] theorem State.afterDelimiter_aperture : (s.afterDelimiter).aperture = s.aperture := rfl
@[simp] theorem State.afterDelimiter_slots : (s.afterDelimiter).slots = s.slots := rfl
@[simp] theorem State.afterDelimiter_port : (s.afterDelimiter).port = s.port := rfl
@[simp] theorem State.afterDelimiter_events : (s.afterDelimiter).events = s.events := rfl
@[simp] theorem State.afterDelimiter_interrupt : (s.afterDelimiter).interrupt = s.interrupt := rfl
@[simp] theorem State.afterDelimiter_host : (s.afterDelimiter).host = s.host := rfl
@[simp] theorem State.afterDelimiter_pins : (s.afterDelimiter).pins = s.pins := rfl
@[simp] theorem State.afterDelimiter_memory : (s.afterDelimiter).memory = s.memory := rfl
@[simp] theorem State.afterDelimiter_pending : (s.afterDelimiter).pending = s.pending := rfl

/-! ## State.popSignal -/

@[simp] theorem State.popSignal_membership : (s.popSignal).membership = s.membership := rfl
@[simp] theorem State.popSignal_link : (s.popSignal).link = s.link := rfl
@[simp] theorem State.popSignal_outbound : (s.popSignal).outbound = s.outbound := rfl
@[simp] theorem State.popSignal_inbound : (s.popSignal).inbound = s.inbound := rfl
@[simp] theorem State.popSignal_map : (s.popSignal).map = s.map := rfl
@[simp] theorem State.popSignal_signals : (s.popSignal).signals = s.signals.tail := rfl
@[simp] theorem State.popSignal_aperture : (s.popSignal).aperture = s.aperture := rfl
@[simp] theorem State.popSignal_slots : (s.popSignal).slots = s.slots := rfl
@[simp] theorem State.popSignal_port : (s.popSignal).port = s.port := rfl
@[simp] theorem State.popSignal_events : (s.popSignal).events = s.events := rfl
@[simp] theorem State.popSignal_interrupt : (s.popSignal).interrupt = s.interrupt := rfl
@[simp] theorem State.popSignal_host : (s.popSignal).host = s.host := rfl
@[simp] theorem State.popSignal_pins : (s.popSignal).pins = s.pins := rfl
@[simp] theorem State.popSignal_memory : (s.popSignal).memory = s.memory := rfl
@[simp] theorem State.popSignal_pending : (s.popSignal).pending = s.pending := rfl

/-! ## State.popEvent -/

@[simp] theorem State.popEvent_membership : (s.popEvent).membership = s.membership := rfl
@[simp] theorem State.popEvent_link : (s.popEvent).link = s.link := rfl
@[simp] theorem State.popEvent_outbound : (s.popEvent).outbound = s.outbound := rfl
@[simp] theorem State.popEvent_inbound : (s.popEvent).inbound = s.inbound := rfl
@[simp] theorem State.popEvent_map : (s.popEvent).map = s.map := rfl
@[simp] theorem State.popEvent_signals : (s.popEvent).signals = s.signals := rfl
@[simp] theorem State.popEvent_aperture : (s.popEvent).aperture = s.aperture := rfl
@[simp] theorem State.popEvent_slots : (s.popEvent).slots = s.slots := rfl
@[simp] theorem State.popEvent_port : (s.popEvent).port = s.port := rfl
@[simp] theorem State.popEvent_events : (s.popEvent).events = s.events.pop := rfl
@[simp] theorem State.popEvent_interrupt : (s.popEvent).interrupt = s.interrupt := rfl
@[simp] theorem State.popEvent_host : (s.popEvent).host = s.host := rfl
@[simp] theorem State.popEvent_pins : (s.popEvent).pins = s.pins := rfl
@[simp] theorem State.popEvent_memory : (s.popEvent).memory = s.memory := rfl
@[simp] theorem State.popEvent_pending : (s.popEvent).pending = s.pending := rfl

end Sys2Proof.Machine
end

