-- ==== Sys2Proof/Laws/Lists.lean ====
section
/-! SUPPORT. Looking up and changing one element of a list: the lowest free tag, the posted entry of a place, the one
executing entry, the reply on the air. -/

namespace Sys2Proof.Machine

/-! ## Lists -/

/-- The first element that meets a test, given what stands before it. -/
theorem find?_at {α : Type} {p : α → Bool} {pre post : List α} {e : α} (he : p e = true) (hp : ∀ f ∈ pre, p f = false) :
    (pre ++ e :: post).find? p = some e := by
  rw [List.find?_append, List.find?_eq_none.mpr (fun f hf => by simp [hp f hf])]
  simp [he]

/-- Changing the one element that meets a test. -/
theorem map_update_at {α : Type} {p : α → Prop} [DecidablePred p] {g : α → α} {pre post : List α} {e : α} (he : p e)
    (hn : ∀ f ∈ pre ++ post, ¬p f) :
    (pre ++ e :: post).map (fun f => if p f then g f else f) = pre ++ g e :: post := by
  have keep : ∀ l : List α, (∀ f ∈ l, ¬p f) → l.map (fun f => if p f then g f else f) = l := fun l hl => by
    conv_rhs => rw [← List.map_id l]
    exact List.map_congr_left fun f hf => if_neg (hl f hf)
  rw [List.map_append, List.map_cons, if_pos he, keep pre fun f hf => hn f (by simp [hf]),
    keep post fun f hf => hn f (by simp [hf])]

/-- Taking out the one element that fails a test. -/
theorem filter_at {α : Type} {p : α → Bool} {pre post : List α} {e : α} (he : p e = false)
    (hn : ∀ f ∈ pre ++ post, p f = true) : (pre ++ e :: post).filter p = pre ++ post := by
  rw [List.filter_append, List.filter_cons_of_neg (by simp [he]),
    List.filter_eq_self.mpr fun f hf => hn f (by simp [hf]), List.filter_eq_self.mpr fun f hf => hn f (by simp [hf])]

/-! ## Tags -/

theorem allTags_eq (g : Tag) : allTags = allTags.take g.val ++ g :: allTags.drop (g.val + 1) := by
  revert g
  decide

theorem allTags_take (g h : Tag) (hh : h ∈ allTags.take g.val) : h < g := by
  revert g h
  decide

/-- The lowest tag that meets a test. -/
theorem allTags_find? {p : Tag → Bool} {g : Tag} (hg : p g = true) (hl : ∀ h : Tag, h < g → p h = false) :
    allTags.find? p = some g := by
  rw [allTags_eq g]
  exact find?_at hg fun h hh => hl h (allTags_take g h hh)

/-- The lowest free tag (R57). -/
theorem State.freeTag_eq {s : State} {g : Tag} (hg : s.outbound.table[g] = none)
    (hl : ∀ h : Tag, h < g → s.outbound.table[h] ≠ none) : s.freeTag = some g := by
  apply allTags_find?
  · simp only [State.entryAt]
    rw [hg]
    rfl
  · intro h hh
    have := hl h hh
    simp only [State.entryAt]
    cases hx : s.outbound.table[h] <;> simp_all

/-- The tag of a slot's one entry. -/
theorem State.slotTag_eq {s : State} {k : SlotNo} {g : Tag} {e : TransEntry} (hg : s.outbound.table[g] = some e)
    (ho : e.origin = .slot k) (hu : ∀ h f, s.outbound.table[h] = some f → f.origin = .slot k → h = g) :
    s.slotTag k = some g := by
  apply allTags_find?
  · simp only [State.entryAt]
    rw [hg]
    simp [ho]
  · intro h hh
    simp only [State.entryAt]
    cases hx : s.outbound.table[h] with
    | none => rfl
    | some f =>
      have : f.origin ≠ .slot k := fun hf => absurd (hu h f hx hf) (ne_of_lt hh)
      simpa using this

/-! ## Posted entries -/

/-- The posted entry of a place (R122). -/
theorem State.postedAt_eq {s : State} {pre post : List PostedEntry} {e : PostedEntry} (hp : s.aperture.posted = pre ++ e :: post)
    (hn : ∀ f ∈ pre, f.place ≠ e.place) : s.postedAt e.place = some e := by
  unfold State.postedAt
  rw [hp]
  exact find?_at (by simp) fun f hf => by simp [hn f hf]

/-- A place that some entry does not have is free. -/
theorem State.freePlace_spec {s : State} (h : s.aperture.posted.length < 8) :
    ∀ e ∈ s.aperture.posted, e.place ≠ s.freePlace := by
  by_cases hn : ∃ p : Place, ∀ e ∈ s.aperture.posted, e.place ≠ p
  · obtain ⟨p, hp⟩ := hn
    have hpn : s.postedAt p = none := List.find?_eq_none.mpr fun e he => by simpa using hp e he
    have hall : ∀ q : Place, q ∈ allPlaces := by decide
    have hs : (allPlaces.find? fun q => (s.postedAt q).isNone).isSome := by
      rw [List.find?_isSome]
      exact ⟨p, hall p, by simp [hpn]⟩
    obtain ⟨q, hq⟩ := Option.isSome_iff_exists.mp hs
    have hqn := List.find?_some hq
    intro e he hep
    rw [State.freePlace, hq, Option.getD_some] at hep
    have hx : s.postedAt q = none := by simpa using hqn
    have := List.find?_eq_none.mp hx e he
    simp [hep] at this
  · exfalso
    push Not at hn
    have hsub : (Finset.univ : Finset Place) ⊆ (s.aperture.posted.map PostedEntry.place).toFinset := fun p _ => by
      obtain ⟨e, he, hp⟩ := hn p
      simp only [List.mem_toFinset, List.mem_map]
      exact ⟨e, he, hp⟩
    have h1 := Finset.card_le_card hsub
    have h2 := List.toFinset_card_le (s.aperture.posted.map PostedEntry.place)
    have h3 : (Finset.univ : Finset Place).card = 8 := rfl
    simp only [List.length_map] at h2
    omega

/-! ## The executing entry and replies -/

/-- The EXECUTING entry of a list that has it at one place (R21). -/
theorem State.executing_eq {s : State} {pre post : List ListEntry} {e : ListEntry} (hl : s.inbound.list = pre ++ e :: post)
    (he : e.state = .executing) (hn : ∀ f ∈ pre ++ post, f.state ≠ .executing) : s.executing = some e := by
  unfold State.executing
  rw [hl]
  exact find?_at (by simp [he]) fun f hf => by simp [hn f (by simp [hf])]

/-- No EXECUTING entry. -/
theorem State.executing_none {s : State} (hn : ∀ f ∈ s.inbound.list, f.state ≠ .executing) : s.executing = none :=
  List.find?_eq_none.mpr fun f hf => by simpa using hn f hf

/-- The oldest NEW entry becomes EXECUTING (R27). -/
theorem markOldest_at {pre post : List ListEntry} {e : ListEntry} (he : e.state = .fresh)
    (hn : ∀ f ∈ pre, f.state ≠ .fresh) :
    markOldest (pre ++ e :: post) = pre ++ { e with state := .executing } :: post := by
  induction pre with
  | nil => simp [markOldest, he]
  | cons f pre ih =>
    have hf : f.state ≠ .fresh := hn f (by simp)
    simp only [List.cons_append, markOldest, if_neg hf]
    rw [ih fun g hg => hn g (by simp [hg])]

/-- The last word of an entry under an overlay (R123). -/
theorem overlayLast_concat (ws : List MaskedWord) (u w : MaskedWord) : overlayLast (ws ++ [u]) w = ws ++ [overlay u w] := by
  induction ws with
  | nil => rfl
  | cons x xs ih =>
    cases xs with
    | nil => rfl
    | cons y ys =>
      simp only [List.cons_append] at ih ⊢
      rw [overlayLast, ih]
      simp

end Sys2Proof.Machine
end

