-- ==== Sys2Proof/Laws/Memory.lean ====
section
/-! SUPPORT. Local memory: reading after writing, and every operation on it keeps the canonical form. -/

namespace Sys2Proof.Machine

/-- A weaker lower bound keeps the form. -/
theorem memoryWfFrom_mono {m : List Host.Cell} {lo hi : Nat} (h : memoryWfFrom hi m = true) (hl : lo ≤ hi) :
    memoryWfFrom lo m = true := by
  cases m with
  | nil => rfl
  | cons c m =>
    simp only [memoryWfFrom, Bool.and_eq_true, decide_eq_true_eq] at h ⊢
    exact ⟨⟨by omega, h.1.2⟩, h.2⟩

/-- Below the lower bound nothing is listed. -/
theorem readByte_below {m : List Host.Cell} {lo a : Nat} (h : memoryWfFrom lo m = true) (ha : a < lo) :
    readByte m a = Config.unlistedByte := by
  induction m generalizing lo with
  | nil => rfl
  | cons c m ih =>
    simp only [memoryWfFrom, Bool.and_eq_true, decide_eq_true_eq] at h
    rw [readByte, if_neg (by omega)]
    exact ih h.2 (by omega)

/-- A byte written keeps the form above a bound it respects. -/
theorem writeByte_memoryWfFrom {m : List Host.Cell} {lo a : Nat} {v : Byte} (h : memoryWfFrom lo m = true)
    (ha : lo ≤ a) : memoryWfFrom lo (writeByte m a v) = true := by
  induction m generalizing lo with
  | nil =>
    by_cases hv : v = Config.unlistedByte
    · simp [writeByte, hv, memoryWfFrom]
    · simp [writeByte, hv, memoryWfFrom, ha]
  | cons c m ih =>
    obtain ⟨b, w⟩ := c
    have h' := h
    simp only [memoryWfFrom, Bool.and_eq_true, decide_eq_true_eq] at h
    obtain ⟨⟨hb, hw⟩, hm⟩ := h
    rw [writeByte]
    split_ifs with h1 h2 h3 h4
    · exact h'
    · simp only [memoryWfFrom, Bool.and_eq_true, decide_eq_true_eq]
      exact ⟨⟨ha, h2⟩, ⟨⟨by omega, hw⟩, hm⟩⟩
    · exact memoryWfFrom_mono hm (by omega)
    · simp only [memoryWfFrom, Bool.and_eq_true, decide_eq_true_eq]
      exact ⟨⟨ha, h4⟩, by subst h3; exact hm⟩
    · simp only [memoryWfFrom, Bool.and_eq_true, decide_eq_true_eq]
      exact ⟨⟨hb, hw⟩, ih hm (by omega)⟩

/-- A byte written keeps the canonical form. -/
theorem writeByte_memoryWf {m : List Host.Cell} (a : Nat) (v : Byte) (h : memoryWf m = true) :
    memoryWf (writeByte m a v) = true := writeByte_memoryWfFrom h (Nat.zero_le a)

/-- Reading after a write: the byte written at its address, the former byte elsewhere. -/
theorem readByte_writeByte {m : List Host.Cell} (a b : Nat) (v : Byte) (h : memoryWf m = true) :
    readByte (writeByte m a v) b = if b = a then v else readByte m b := by
  suffices H : ∀ lo, memoryWfFrom lo m = true → readByte (writeByte m a v) b = if b = a then v else readByte m b from
    H 0 h
  clear h
  induction m with
  | nil =>
    intro lo _
    by_cases hv : v = Config.unlistedByte <;> by_cases hb : b = a <;> simp [writeByte, readByte, hv, hb]
  | cons c m ih =>
    obtain ⟨d, w⟩ := c
    intro lo h
    have h' := h
    simp only [memoryWfFrom, Bool.and_eq_true, decide_eq_true_eq] at h
    obtain ⟨⟨hd, hw⟩, hm⟩ := h
    have head : readByte ((d, w) :: m) b = if b = d then w else readByte m b := rfl
    have below : ∀ x, x < d → readByte ((d, w) :: m) x = Config.unlistedByte := fun x hx =>
      readByte_below (lo := d) (by simp [memoryWfFrom, hw, hm]) hx
    have unlisted : readByte m d = Config.unlistedByte := readByte_below hm (Nat.lt_succ_self d)
    by_cases h1 : a < d
    · by_cases h2 : v = Config.unlistedByte
      · by_cases hb : b = a
        · subst hb; simp [writeByte, h1, h2, below b h1]
        · simp [writeByte, h1, h2, hb]
      · by_cases hb : b = a <;> simp [writeByte, h1, h2, hb, readByte]
    · by_cases h3 : a = d
      · subst h3
        by_cases h4 : v = Config.unlistedByte <;> by_cases hb : b = a
        · subst hb; simp [writeByte, h4, unlisted]
        · simp [writeByte, h4, hb, head]
        · simp [writeByte, h4, hb, readByte]
        · simp [writeByte, h4, hb, readByte]
      · have hi := ih (d + 1) hm
        by_cases hb : b = d
        · subst hb; simp [writeByte, h1, h3, readByte, Ne.symm h3]
        · simp [writeByte, h1, h3, readByte, hb, hi]

/-- One lane written keeps the form. -/
theorem writeLane_memoryWf {m : List Host.Cell} (a : Word) (k : Lanes) (w : Word) (n : Nat) (h : memoryWf m = true) :
    memoryWf (writeLane m a k w n) = true := by
  unfold writeLane
  split
  · exact writeByte_memoryWf _ _ h
  · exact h

/-- A masked word written keeps the form. -/
theorem writeLanes_memoryWf {m : List Host.Cell} (a : Word) (k : Lanes) (w : Word) (h : memoryWf m = true) :
    memoryWf (writeLanes m a k w) = true :=
  writeLane_memoryWf _ _ _ _ (writeLane_memoryWf _ _ _ _ (writeLane_memoryWf _ _ _ _ (writeLane_memoryWf _ _ _ _ h)))

/-- What other masters write keeps the form. -/
theorem writeOthers_memoryWf {os : List (Word × Byte)} {m : List Host.Cell} (h : memoryWf m = true) :
    memoryWf (writeOthers os m) = true := by
  induction os generalizing m with
  | nil => exact h
  | cons o os ih => exact ih (writeByte_memoryWf _ _ h)

/-- A word written or left keeps the form. -/
theorem writeIf_memoryWf {m : List Host.Cell} (b : Bool) (a : Word) (w : MaskedWord) (h : memoryWf m = true) :
    memoryWf (writeIf b m a w) = true := by
  unfold writeIf
  split
  · exact writeLanes_memoryWf _ _ _ h
  · exact h

/-- The read transfers of a cycle keep the form. -/
theorem readTransfers_memoryWf {n : Nat} {a : Word} {ts : List Transfer} {m : List Host.Cell} (h : memoryWf m = true) :
    memoryWf (readTransfers n a ts m).memory = true := by
  induction n generalizing a ts m with
  | zero => exact h
  | succ n ih =>
    simp only [readTransfers]
    split
    · exact ih (writeOthers_memoryWf h)
    · exact writeOthers_memoryWf h

/-- The write transfers of a cycle keep the form. -/
theorem writeTransfers_memoryWf {ws : List MaskedWord} {a : Word} {ts : List Transfer} {m : List Host.Cell}
    (h : memoryWf m = true) : memoryWf (writeTransfers ws a ts m).2 = true := by
  induction ws generalizing a ts m with
  | nil => exact h
  | cons w ws ih =>
    simp only [writeTransfers]
    split
    · exact ih (writeLanes_memoryWf _ _ _ (writeOthers_memoryWf h))
    · exact writeIf_memoryWf _ _ _ (writeOthers_memoryWf h)

/-- The words of a write given up keep the form. -/
theorem writeLanded_memoryWf {ws : List MaskedWord} {a : Word} {ls : List Bool} {m : List Host.Cell}
    (h : memoryWf m = true) : memoryWf (writeLanded ws a ls m) = true := by
  induction ws generalizing a ls m with
  | nil => exact h
  | cons w ws ih => exact ih (writeIf_memoryWf _ _ _ h)

/-- A cycle keeps the form. -/
theorem Cycle.run_memoryWf {c : Cycle} {ts : List Transfer} {m : List Host.Cell} (h : memoryWf m = true) :
    memoryWf (c.run ts m).memory = true := by
  unfold Cycle.run
  split
  · exact readTransfers_memoryWf h
  · exact writeTransfers_memoryWf h
  · exact readTransfers_memoryWf h
  · exact writeTransfers_memoryWf h
  · simp only
    split
    · split
      · exact h
      · exact writeTransfers_memoryWf h
    · split
      · split
        · exact readTransfers_memoryWf h
        · exact writeTransfers_memoryWf (readTransfers_memoryWf h)
      · exact readTransfers_memoryWf h

/-- A cycle given up when RESET goes low keeps the form. -/
theorem Cycle.giveUp_memoryWf {c : Cycle} {ls : List Bool} {m : List Host.Cell} (h : memoryWf m = true) :
    memoryWf (c.giveUp ls m) = true := by
  unfold Cycle.giveUp
  split
  · exact writeLanded_memoryWf h
  · exact writeLanded_memoryWf h
  · split
    · exact writeLanded_memoryWf h
    · exact h
  · exact h
  · exact h

/-- The memory of the state after reset has the form. -/
theorem reset_memoryWf : memoryWf State.reset.memory = true := rfl

end Sys2Proof.Machine
end

