-- ==== Sys2Proof/Laws/Ops.lean ====
section
/-! SUPPORT. For each shared operation one lemma that says which parts of the state it can touch, and, where it takes a
choice, what it does in each case. -/

namespace Sys2Proof.Machine

variable (s : State)

/-! ## Taking a command -/

theorem running_high {s : State} (f : State → State) (h : s.pins.resetLow = false) : running s f = .next (f s) := by
  simp [running, h]

theorem running_low {s : State} (f : State → State) (h : s.pins.resetLow = true) : running s f = .next s := by
  simp [running, h]

theorem hostAccess_blocked {s : State} (c : Instr) (f : State → State) (h : s.hostBlocked = true) :
    hostAccess c s f = .next (s.waitOnBus c) := by simp [hostAccess, h]

theorem hostAccess_free {s : State} (c : Instr) (f : State → State) (h : s.hostBlocked = false) :
    hostAccess c s f = .next (f s) := by simp [hostAccess, h]

theorem hostWrite_free {s : State} (c : Instr) (f : State → State) (h : s.hostBlocked = false) :
    hostWrite c s f = .next (f (s.answerHost .done)) := hostAccess_free c _ h

/-! ## Event Queue -/

theorem EventQueue.append_records_length (q : EventQueue) (r : EventRecord) (h : q.records.length ≤ 16) :
    (q.append r).records.length ≤ 16 := by
  unfold EventQueue.append Config.eventCapacity
  split
  · rename_i hl
    simp only [List.length_append, List.length_singleton]
    omega
  · exact h

theorem EventQueue.append_sound {q : EventQueue} (r : EventRecord) (h : q.sound) : (q.append r).sound := by
  refine ⟨q.append_records_length r h.1, fun _ => ?_⟩
  unfold EventQueue.append Config.eventCapacity
  split
  · simp
  · intro hn
    simp_all

theorem EventQueue.pop_sound {q : EventQueue} (h : q.sound) : q.pop.sound := by
  obtain ⟨hl, ho⟩ := h
  unfold EventQueue.pop
  split
  · exact ⟨hl, ho⟩
  · exact ⟨by simp, by simp⟩
  · rename_i heq
    rw [heq] at hl
    refine ⟨by simp at hl ⊢; omega, fun _ => ?_⟩
    rintro rfl
    simp_all

/-! ## Membership Unit -/

theorem State.setLink_touches (l : LinkState) :
    ∃ b, s.setLink l =
      { s with membership := { s.membership with link := l }, interrupt := { s.interrupt with linkCause := b } } := by
  unfold State.setLink
  split
  · rename_i h
    exact ⟨s.interrupt.linkCause, by rw [← h]⟩
  · exact ⟨true, rfl⟩

theorem State.setLink_changed {s : State} {l : LinkState} (h : s.membership.link ≠ l) :
    s.setLink l =
      { s with membership := { s.membership with link := l }, interrupt := { s.interrupt with linkCause := true } } := by
  simp [State.setLink, h]

@[simp] theorem State.setLink_link (l : LinkState) : (s.setLink l).membership.link = l := by
  obtain ⟨b, h⟩ := s.setLink_touches l
  rw [h]

theorem State.hear_touches (i : Station) :
    ∃ roster q, s.hear i = { s with membership := { s.membership with roster := roster }, events := q } := by
  unfold State.hear
  split
  · exact ⟨_, _, rfl⟩
  · simp only
    split <;> exact ⟨_, _, rfl⟩

theorem State.hear_own {s : State} {i : Station} (h : i = s.membership.own) : s.hear i = s := by simp [State.hear, h]

theorem State.hearLeave_touches (i : Station) :
    ∃ roster q, s.hearLeave i = { s with membership := { s.membership with roster := roster }, events := q } := by
  unfold State.hearLeave
  split
  · exact ⟨_, _, rfl⟩
  · simp only
    split <;> exact ⟨_, _, rfl⟩

theorem State.countNoAck_touches (i : Station) :
    ∃ roster q, s.countNoAck i = { s with membership := { s.membership with roster := roster }, events := q } := by
  unfold State.countNoAck
  simp only
  split
  · split <;> exact ⟨_, _, rfl⟩
  · exact ⟨_, _, rfl⟩

theorem State.reportNoAck_touches (e : TransEntry) :
    ∃ roster q, s.reportNoAck e = { s with membership := { s.membership with roster := roster }, events := q } := by
  unfold State.reportNoAck
  split
  · exact ⟨_, _, rfl⟩
  · exact s.countNoAck_touches _

/-! ## Duplicate Filter and list -/

theorem State.closeFilter_touches (i : Station) (t : Tag) (b : Bool) :
    ∃ filter, s.closeFilter i t b = { s with inbound := { s.inbound with filter := filter } } := by
  unfold State.closeFilter
  split <;> exact ⟨_, rfl⟩

theorem State.purge_touches (i : Station) :
    ∃ u, s.purge i = { s with inbound := u } ∧ u.enable = s.inbound.enable := ⟨_, rfl, rfl⟩

theorem acceptDecision_touches (i : Station) (t : Tag) (b : Bool) (o : Offer) :
    ∃ u signals q, (acceptDecision i t b o s).2 = { s with inbound := u, signals := signals, events := q } ∧
      u.enable = s.inbound.enable ∧ u.replyOrder = s.inbound.replyOrder := by
  unfold acceptDecision
  simp only
  split
  · exact ⟨_, _, _, rfl, rfl, rfl⟩
  split
  · cases o <;> exact ⟨_, _, _, rfl, rfl, rfl⟩
  split
  · exact ⟨_, _, _, rfl, rfl, rfl⟩
  split
  · exact ⟨_, _, _, rfl, rfl, rfl⟩
  · cases o <;> exact ⟨_, _, _, rfl, rfl, rfl⟩

/-! ## Memory Port -/

theorem State.portRequest_idle {s : State} (r : Requester) (q : Request) (h : s.port.current = none) :
    s.portRequest r q = { s with port := { s.port with current := some (q.start r s.membership.config.mapBase) } } := by
  unfold State.portRequest
  rw [h]

theorem State.portRequest_busy_engine {s : State} {c : Cycle} (q : Request) (h : s.port.current = some c) :
    s.portRequest .engine q = { s with port := { s.port with engine := some q } } := by
  unfold State.portRequest
  rw [h]

theorem State.portRequest_busy_maintenance {s : State} {c : Cycle} (q : Request) (h : s.port.current = some c) :
    s.portRequest .maintenance q = { s with port := { s.port with maintenance := some q } } := by
  unfold State.portRequest
  rw [h]

theorem State.portRequest_touches (r : Requester) (q : Request) : ∃ p, s.portRequest r q = { s with port := p } := by
  unfold State.portRequest
  split <;> exact ⟨_, rfl⟩

theorem State.portNext_touches : ∃ p, s.portNext = { s with port := p } := by
  unfold State.portNext
  split <;> exact ⟨_, rfl⟩

/-! ## Ends of transactions -/

theorem State.dropPosted_touches (p : Place) :
    ∃ posted slots held, s.dropPosted p =
      { s with
        aperture := { s.aperture with posted := posted }, slots := slots, host := { s.host with held := held } } :=
  ⟨_, _, _, rfl⟩

theorem State.endLoad_touches (st : Status) (data : List Word) :
    ∃ host q, s.endLoad st data = { s with host := host, events := q } := by
  unfold State.endLoad
  split
  · split <;> exact ⟨_, _, rfl⟩
  · exact ⟨_, _, rfl⟩

theorem State.endPosted_touches (p : Place) (st : Status) :
    ∃ u slots host q, s.endPosted p st = { s with aperture := u, slots := slots, host := host, events := q } ∧
      u.map = s.aperture.map := by
  unfold State.endPosted
  split
  · exact ⟨_, _, _, _, rfl, rfl⟩
  · split <;> exact ⟨_, _, _, _, rfl, rfl⟩

theorem State.deliver_touches (o : Origin) (st : Status) (data : List Word) :
    ∃ u slots host q, s.deliver o st data = { s with aperture := u, slots := slots, host := host, events := q } ∧
      u.map = s.aperture.map := by
  cases o with
  | apertureRead =>
    obtain ⟨h, q, e⟩ := s.endLoad_touches st data
    exact ⟨_, _, h, q, e, rfl⟩
  | posted p => exact s.endPosted_touches p st
  | slot k => exact ⟨_, _, _, _, rfl, rfl⟩

theorem State.endEntry_touches (t : Tag) (st : Status) (data : List Word) :
    ∃ ob u slots host q, s.endEntry t st data =
        { s with outbound := ob, aperture := u, slots := slots, host := host, events := q } ∧
      ob.issueBits = s.outbound.issueBits ∧ u.map = s.aperture.map := by
  unfold State.endEntry
  split
  · exact ⟨_, _, _, _, _, rfl, rfl, rfl⟩
  · rename_i e _
    obtain ⟨u, slots, host, q, h, hm⟩ := (s.freeEntry t).deliver_touches e.origin (if e.cancel then .cancelled else st) data
    exact ⟨_, u, slots, host, q, h, rfl, hm⟩

theorem State.afterAttempt_touches (t : Tag) (code : AckCode) :
    ∃ roster ob u slots host q, s.afterAttempt t code =
        { s with
          membership := { s.membership with roster := roster }, outbound := ob, aperture := u, slots := slots
          host := host, events := q } ∧
      ob.issueBits = s.outbound.issueBits ∧ u.map = s.aperture.map := by
  have ends : ∀ st, ∃ roster ob u slots host q, s.endEntry t st [] =
        { s with
          membership := { s.membership with roster := roster }, outbound := ob, aperture := u, slots := slots
          host := host, events := q } ∧
      ob.issueBits = s.outbound.issueBits ∧ u.map = s.aperture.map := fun st => by
    obtain ⟨ob, u, slots, host, q, h, h1, h2⟩ := s.endEntry_touches t st []
    exact ⟨s.membership.roster, ob, u, slots, host, q, h, h1, h2⟩
  unfold State.afterAttempt
  split
  · exact ⟨_, _, _, _, _, _, rfl, rfl, rfl⟩
  · simp only
    split
    · split
      · exact ⟨_, _, _, _, _, _, rfl, rfl, rfl⟩
      · exact ends _
    · exact ends _
    · exact ends _
    · split
      · exact ⟨_, _, _, _, _, _, rfl, rfl, rfl⟩
      · exact ends _
    · split
      · exact ⟨_, _, _, _, _, _, rfl, rfl, rfl⟩
      · obtain ⟨ob, u, slots, host, q, h, h1, h2⟩ := s.endEntry_touches t .noAck []
        rw [h]
        obtain ⟨roster, q', h'⟩ := State.reportNoAck_touches _ _
        rw [h']
        exact ⟨_, ob, u, slots, host, _, rfl, h1, h2⟩

theorem matchResponse_touches (i : Station) (t : Tag) (b : Bool) (st : WireStatus) (data : List Word) :
    ∃ ob u slots host q, (matchResponse i t b st data s).2 =
        { s with outbound := ob, aperture := u, slots := slots, host := host, events := q } ∧
      ob.issueBits = s.outbound.issueBits ∧ u.map = s.aperture.map := by
  unfold matchResponse
  split
  · split
    · exact s.endEntry_touches t _ data
    · exact ⟨_, _, _, _, _, rfl, rfl, rfl⟩
  · exact ⟨_, _, _, _, _, rfl, rfl, rfl⟩

/-! ## The medium -/

theorem LinkUnit.tick_attached (u : LinkUnit) : u.tick.attached = u.attached := by
  unfold LinkUnit.tick
  split <;> first | rfl | (split <;> rfl)

theorem State.heard_touches (i : Station) (f : State → State) (h : s.follows = false ∨ s.link.phase.receptive = false) :
    s.heard i f = s := by
  unfold State.heard
  rcases h with h | h <;> simp [h]

end Sys2Proof.Machine
end

