-- ==== Sys2Proof/Laws/Presentation.lean ====
section
/-! SUPPORT. What a presentation and the follow-ons of a removal can touch, and that they do nothing when nothing is
due. -/

namespace Sys2Proof.Machine

/-- A state that differs from another in what transactions and their presentations touch alone: the Roster, the Outbound
Unit, the list and filter of the Inbound Unit, the Signal Queue, the Posted Write Buffer with the fence failure count, the
slots, the Host Port and the Event Queue. -/
def Touches (s t : State) : Prop :=
  ∃ roster ob inb signals u slots host q,
    t =
        { s with
          membership := { s.membership with roster := roster }, outbound := ob, inbound := inb, signals := signals
          aperture := u, slots := slots, host := host, events := q } ∧
      inb.enable = s.inbound.enable ∧ inb.replyOrder = s.inbound.replyOrder ∧ u.map = s.aperture.map

theorem Touches.refl (s : State) : Touches s s := ⟨_, _, _, _, _, _, _, _, rfl, rfl, rfl, rfl⟩

theorem Touches.trans {s t u : State} (h : Touches s t) (k : Touches t u) : Touches s u := by
  obtain ⟨r, ob, inb, sg, ap, sl, ho, q, rfl, h1, h2, h3⟩ := h
  obtain ⟨r', ob', inb', sg', ap', sl', ho', q', rfl, k1, k2, k3⟩ := k
  exact ⟨r', ob', inb', sg', ap', sl', ho', q', rfl, k1.trans h1, k2.trans h2, k3.trans h3⟩

theorem Touches.link {s t : State} (h : Touches s t) : t.link = s.link := by
  obtain ⟨_, _, _, _, _, _, _, _, rfl, _⟩ := h
  rfl

theorem Touches.linkState {s t : State} (h : Touches s t) : t.membership.link = s.membership.link := by
  obtain ⟨_, _, _, _, _, _, _, _, rfl, _⟩ := h
  rfl

theorem Touches.memory {s t : State} (h : Touches s t) : t.memory = s.memory := by
  obtain ⟨_, _, _, _, _, _, _, _, rfl, _⟩ := h
  rfl

theorem Touches.pending {s t : State} (h : Touches s t) : t.pending = s.pending := by
  obtain ⟨_, _, _, _, _, _, _, _, rfl, _⟩ := h
  rfl

theorem Touches.interrupt {s t : State} (h : Touches s t) : t.interrupt = s.interrupt := by
  obtain ⟨_, _, _, _, _, _, _, _, rfl, _⟩ := h
  rfl

variable (s : State)

theorem State.deliver_in (o : Origin) (st : Status) (data : List Word) : Touches s (s.deliver o st data) := by
  obtain ⟨u, slots, host, q, h, hm⟩ := s.deliver_touches o st data
  rw [h]
  exact ⟨_, _, _, _, _, _, _, _, rfl, rfl, rfl, hm⟩

theorem State.endEntry_in (t : Tag) (st : Status) (data : List Word) : Touches s (s.endEntry t st data) := by
  obtain ⟨ob, u, slots, host, q, h, _, hm⟩ := s.endEntry_touches t st data
  rw [h]
  exact ⟨_, _, _, _, _, _, _, _, rfl, rfl, rfl, hm⟩

theorem State.afterAttempt_in (t : Tag) (code : AckCode) : Touches s (s.afterAttempt t code) := by
  obtain ⟨r, ob, u, slots, host, q, h, _, hm⟩ := s.afterAttempt_touches t code
  rw [h]
  exact ⟨_, _, _, _, _, _, _, _, rfl, rfl, rfl, hm⟩

theorem State.loopbackAnswer_in (t : Tag) (e : TransEntry) : Touches s (s.loopbackAnswer t e).2 := by
  unfold State.loopbackAnswer
  split
  · split
    · obtain ⟨u, sg, q, h, h1, h2⟩ := acceptDecision_touches s s.membership.own t e.issue ‹_›
      rw [h]
      exact ⟨_, _, _, _, _, _, _, _, rfl, h1, h2, rfl⟩
    · exact .refl s
  · exact .refl s

theorem State.presentLoopback_in (t : Tag) : Touches s (s.presentLoopback t) := by
  unfold State.presentLoopback
  split
  · exact .refl s
  · rename_i e _
    have h : Touches s (s.setEntry t { e with state := .onAir }) := ⟨_, _, _, _, _, _, _, _, rfl, rfl, rfl, rfl⟩
    exact (h.trans (State.loopbackAnswer_in _ t e)).trans (State.afterAttempt_in _ t _)

theorem State.take_in (o : Origin) : Touches s (s.take o) := by
  cases o with
  | apertureRead =>
    unfold State.take
    simp only
    split <;> exact ⟨_, _, _, _, _, _, _, _, rfl, rfl, rfl, rfl⟩
  | posted p => exact ⟨_, _, _, _, _, _, _, _, rfl, rfl, rfl, rfl⟩
  | slot k => exact ⟨_, _, _, _, _, _, _, _, rfl, rfl, rfl, rfl⟩

theorem State.allocate_in (o : Origin) (target : Station) (body : TransBody) : Touches s (s.allocate o target body) := by
  unfold State.allocate
  split
  · exact .refl s
  · have h (ob : Outbound) : Touches s { s.take o with outbound := ob } :=
      (s.take_in o).trans ⟨_, _, _, _, _, _, _, _, rfl, rfl, rfl, rfl⟩
    simp only
    split
    · exact (h _).trans (State.presentLoopback_in _ _)
    · exact h _

/-- A presentation (R58 to R61). -/
theorem State.present_in (o : Origin) (target : Station) (body : TransBody) : Touches s (s.present o target body) := by
  unfold State.present
  split
  · exact s.deliver_in o _ _
  · exact s.allocate_in o target body

theorem State.presentSlot_in (k : SlotNo) : Touches s (s.presentSlot k) := by
  unfold State.presentSlot
  split
  · exact s.present_in _ _ _
  · exact .refl s

theorem State.presentLoad_in : Touches s s.presentLoad := by
  unfold State.presentLoad
  split
  · split
    · exact s.present_in _ _ _
    · exact .refl s
  · exact .refl s

theorem State.appendPosted_in (st : HeldStore) : Touches s (s.appendPosted st) := by
  have h (es : List PostedEntry) : Touches s { s with aperture := { s.aperture with posted := es } } :=
    ⟨_, _, _, _, _, _, _, _, rfl, rfl, rfl, rfl⟩
  unfold State.appendPosted
  simp only
  split
  · exact (h _).trans (State.present_in _ _ _ _)
  · exact h _

theorem State.placeStore_in (st : HeldStore) : Touches s (s.placeStore st) := by
  unfold State.placeStore
  split
  · exact ⟨_, _, _, _, _, _, _, _, rfl, rfl, rfl, rfl⟩
  · split
    · have h : Touches s (s.releaseHost .done) := ⟨_, _, _, _, _, _, _, _, rfl, rfl, rfl, rfl⟩
      exact h.trans (State.appendPosted_in _ st)
    · exact ⟨_, _, _, _, _, _, _, _, rfl, rfl, rfl, rfl⟩

theorem State.endHeldStore_in : Touches s s.endHeldStore := by
  unfold State.endHeldStore
  split
  · split
    · exact ⟨_, _, _, _, _, _, _, _, rfl, rfl, rfl, rfl⟩
    · split
      · exact s.placeStore_in _
      · exact .refl s
  · exact .refl s

theorem State.completeFence_in : Touches s s.completeFence := ⟨_, _, _, _, _, _, _, _, rfl, rfl, rfl, rfl⟩

/-- One follow-on of a removal (R127). -/
theorem State.followOnce_in {s t : State} (h : s.followOnce = some t) : Touches s t := by
  unfold State.followOnce at h
  split at h
  · cases h
    exact s.present_in _ _ _
  · split at h
    · cases h
      exact s.endHeldStore_in
    · split at h
      · cases h
        exact s.presentLoad_in
      · split at h
        · cases h
          exact s.presentSlot_in _
        · split at h
          · cases h
            exact s.completeFence_in
          · cases h

/-- All follow-ons of a removal (R127). -/
theorem State.followOns_in : ∀ (n : Nat) (s : State), Touches s (s.followOns n)
  | 0, s => .refl s
  | n + 1, s => by
    unfold State.followOns
    split
    · exact (State.followOnce_in ‹_›).trans (State.followOns_in n _)
    · exact .refl s

/-- The end of the drain sets the pending mark of the LEAVE and nothing else (R109). -/
theorem State.checkDrain_touches : ∃ b, s.checkDrain = { s with membership := { s.membership with leavePending := b } } := by
  unfold State.checkDrain
  split
  · exact ⟨true, rfl⟩
  · exact ⟨s.membership.leavePending, rfl⟩

/-- What the end of a transaction brings about touches what presentations touch, and the pending mark of the LEAVE. -/
theorem State.followThrough_touches :
    ∃ t b, Touches s t ∧ s.followThrough = { t with membership := { t.membership with leavePending := b } } := by
  obtain ⟨b, h⟩ := (s.followOns followOnBound).checkDrain_touches
  exact ⟨_, b, State.followOns_in _ s, h⟩

/-- With nothing due, no follow-on runs. -/
theorem State.followOns_settled {s : State} (h : s.followOnce = none) : ∀ n, s.followOns n = s
  | 0 => rfl
  | n + 1 => by simp [State.followOns, h]

theorem State.followThrough_settled {s : State} (h : s.followOnce = none) : s.followThrough = s.checkDrain := by
  rw [State.followThrough, State.followOns_settled h]

/-- Outside DRAINING no drain completes (R109). -/
theorem State.checkDrain_other {s : State} (h : s.membership.link ≠ .draining) : s.checkDrain = s := by
  simp [State.checkDrain, h]

end Sys2Proof.Machine
end

