-- ==== Sys2Proof/Tests/Slice0.lean ====
section
/-! SUPPORT. Small tests, each of one step or one computation, with expected values from the spec's tables and worked
examples; the smoke test of WellFormed; and for each statement a witness of its hypotheses. -/

namespace Sys2Proof.Tests

open Sys2Proof Sys2Proof.Machine

/-! ## Small states -/

/-- A station at rest: a link state, an own number, attached with Inbound Enable 1. -/
def station (l : LinkState) (own : Station) : State :=
  { State.reset with
    membership := { MembershipUnit.initial with link := l, own := own, roster := freshRoster own }
    link := { LinkUnit.initial with attached := true }
    inbound := { Inbound.initial with enable := true } }

/-- The state after a command. -/
def after (c : Instr) (s : State) : State :=
  match exec c s with
  | .next t => t
  | _ => s

/-- The medium in a phase. -/
def inPhase (p : MediumPhase) (s : State) : State := { s with link := { s.link with phase := p } }

/-- A transaction entry. -/
def entry (o : Origin) (target : Station) (body : TransBody) (st : TransState) : TransEntry :=
  { issue := true, origin := o, target, body, state := st, attempts := 0, lastCode := none, cancel := false }

/-- A state with the entry of a tag. -/
def withEntry (t : Tag) (e : TransEntry) (s : State) : State :=
  { s.setEntry t e with outbound := { (s.setEntry t e).outbound with queued := if e.state = .queued then [t] else [] } }

/-- A frame on the air. -/
def sending (o : TxOwner) (dest : Station) (s : State) : State :=
  inPhase (.own { owner := o, frame := { membershipFrame s.membership.own .probe with cls := 2, dest } }) s

/-- A list entry. -/
def listed (source : Station) (tag : Tag) (b : RequestBody) (st : ListState) : ListEntry :=
  { source, tag, issue := true, page := 7, offset := 0, body := b, state := st, orphaned := false, status := none
    data := [], attempts := 0, localAddr := none }

/-- A state with one list entry, its record OPEN. -/
def withListed (e : ListEntry) (s : State) : State :=
  { s.withList [e] [] with
    inbound := { (s.setFilter e.source e.tag { issue := e.issue, state := .opened }).inbound with list := [e] } }

/-- A Window Map entry that lets every station do everything. -/
def openPage (frame : BitVec 20) : MapEntry :=
  { valid := true, frame, readMask := 0xFFFF#16, writeMask := 0xFFFF#16, atomicEnable := true }

/-- A posted entry of one word. -/
def posted (p : Place) (target : Station) (taken : Bool) : PostedEntry :=
  { place := p, target, page := 100, first := 1, words := [{ mask := Lanes.all, data := 9#32 }], taken }

/-- A state with posted entries. -/
def withPosted (es : List PostedEntry) (s : State) : State := { s with aperture := { s.aperture with posted := es } }

/-- A state whose aperture page 0 names station 3, page 100. -/
def withApertureMap (s : State) : State :=
  { s with aperture := { s.aperture with map := s.aperture.map.set 0 { valid := true, target := 3, page := 100 } } }

/-- A state with a slot. -/
def withSlot (kind : BitVec 4) (target : Station) (st : SlotState) (s : State) : State :=
  { s with slots := s.slots.set 0 { Slot.initial with kind, target, count := 1#8, state := st } }

/-- A state with a cycle on the Local Bus. -/
def withCycle (r : Requester) (k : CycleKind) (d : Discard) (old : Option Word) (s : State) : State :=
  { s with port :=
    { s.port with current := some { requester := r, request := { kind := k, addr := 0x450000#32 }, discard := d, old } } }

/-- A held aperture load. -/
def heldLoad (noted : List Place) : HeldLoad :=
  { target := 3, page := 100, offset := 0, lanes := Lanes.all, address := 0#18, noted, presented := false }

/-- A held aperture store. -/
def heldStore : HeldStore :=
  { target := 3, page := 100, offset := 9, word := { mask := Lanes.all, data := 1#32 }, address := 0#18 }

/-- A state with a held access. -/
def holding (h : HeldAccess) (s : State) : State := { s with host := { s.host with held := some h } }

/-- The RESET pin low. -/
def low (s : State) : State := { s with pins := { s.pins with resetLow := true } }

/-- The pending marks of the membership frames. -/
def membershipPending (announce leave : Bool) (s : State) : State :=
  { s with membership := { s.membership with announcePending := announce, leavePending := leave } }

/-- A station that receives a frame. -/
def receiving (l : LinkState) : State := inPhase .frame (station l 4)

/-- A code that a soft reset found begun is driven for `n` more bits. -/
def slotDriven (n : Nat) (s : State) : State := { s with link := { s.link with driving := some .stale, slotLeft := some n } }

/-! ## WellFormed refuses what the rules do not describe -/

theorem test_wf_maintCommandUndefined : (Instr.maintCommandUndefined 5#32).wellFormed = false := by decide
theorem test_wf_slotCommandUndefined : (Instr.slotCommandUndefined 0 3#32).wellFormed = false := by decide
theorem test_wf_registerWrite : (Instr.registerWrite 0x102#12 0#32).wellFormed = false := by decide
theorem test_wf_registerAccessInvalid : (Instr.registerAccessInvalid true .word 0x100#12).wellFormed = false := by decide
theorem test_wf_readReq : (Instr.readReq 1 0 true 0 0 17).wellFormed = false := by decide
theorem test_wf_writeReq : (Instr.writeReq 1 0 true 0 0 []).wellFormed = false := by decide
theorem test_wf_response : (Instr.response 1 0 true .ok (List.replicate 17 0#32)).wellFormed = false := by decide
theorem test_wf_badFrame : (Instr.badFrame 8).wellFormed = false := by decide
theorem test_wf_badFrame_taken : (Instr.badFrame 7).wellFormed = true := by decide
theorem test_wf_lockedWritePhaseEnd :
    (Instr.lockedWritePhaseEnd { Transfer.plain with others := [(0#32, 1#8)] }).wellFormed = false := by decide
theorem test_wf_malformedFrame : (Instr.malformedFrame (membershipFrame 3 .leave)).wellFormed = false := by decide
theorem test_wf_malformedFrame_taken : (Instr.malformedFrame (membershipFrame 3 .probe)).wellFormed = true := by decide

/-! ## Formats -/

/-- The rows of the table in 11.6. -/
theorem test_frame_times :
    (membershipFrame 1 (.announce 1)).bitTimes = 49 ∧
    ({ membershipFrame 1 (.readReq 0 0 1) with cls := 1 } : RawFrame).bitTimes = 72 ∧
    ({ membershipFrame 1 (.writeReq 0 0 (List.replicate 16 { mask := 0#4, data := 0#32 })) with
        cls := 1, length := 16 } : RawFrame).bitTimes = 643 ∧
    ({ membershipFrame 1 (.response 0 (List.replicate 16 0#32)) with cls := 0, length := 16 } : RawFrame).bitTimes = 560 := by
  decide +kernel

/-- The rows of the table of R86. -/
theorem test_arbitration :
    ({ membershipFrame 7 (.response 0 []) with cls := 0 } : RawFrame).beats { membershipFrame 2 .probe with cls := 1 } ∧
    ({ membershipFrame 3 .probe with cls := 2 } : RawFrame).beats { membershipFrame 12 .probe with cls := 2 } ∧
    (membershipFrame 1 .leave).beats { membershipFrame 14 .probe with cls := 0 } = false := by decide

/-- Class 3 source 1 kind 6 length 0 level 1 of an ANNOUNCE from station 1, bit by bit (R82, R83, R177). -/
theorem test_announce_bits :
    (membershipFrame 1 (.announce 1)).coveredBits =
      [true, true, false, false, false, true, false, true, true, false, false, false, false, false, false, false, false,
        false, false, false, false, false, false, false, false, false, false, true] := by decide

/-- After six equal bits one of the opposite level, which counts in the run that follows (R80). -/
theorem test_bit_insertion :
    insertBits 0 true (List.replicate 7 true ++ [false]) =
      [true, true, true, true, true, true, false, true, false] := by decide

/-- A PROBE from 2 to 9 with tag 3, sent and read back. -/
theorem test_probe_received :
    receiveFrame ({ membershipFrame 2 .probe with cls := 2, dest := 9, tag := 3, issue := true } : RawFrame).lineBits =
      some { membershipFrame 2 .probe with cls := 2, dest := 9, tag := 3, issue := true } := by decide +kernel

/-- The rows of the table of R1. -/
theorem test_local_addresses :
    localAddress { MapEntry.zero with frame := 0x00123#20 } 1023 = 0x00123FFC#32 ∧
    localAddress { MapEntry.zero with frame := 0x7FFFF#20 } 16 = 0x7FFFF040#32 := by decide

/-- Map read at base + 320 for page 40, and 01000190h for offset 100 of frame 01000h (2.9). -/
theorem test_addresses_of_example_2_9 :
    mapEntryAddress 0#17 40 = 320#32 ∧ localAddress { MapEntry.zero with frame := 0x01000#20 } 100 = 0x01000190#32 := by
  decide

/-- The rows of the table of R65. -/
theorem test_backoff :
    (station .online 0).backoffBt 1 = 64 ∧ (station .online 4).backoffBt 7 = 480 ∧ (station .online 15).backoffBt 3 = 312 := by
  decide

/-! ## The register window -/

/-- Power-on values: response timeout 40, attempt limit 8, silent threshold 3 (R101). -/
theorem test_limits_register : State.reset.readRegister 0x00C#12 = 0x3828#32 := by decide

/-- A limit written as 0 keeps its value (R101). -/
theorem test_limits_write_zero_keeps :
    (after (.limitsWrite 0x00000A00#32) State.reset).readRegister 0x00C#12 = 0x3A28#32 := by decide

/-- VALID is bit 31 of an aperture map register, the target bits 19 to 16, the page bits 11 to 0 (R175). -/
theorem test_aperture_map_register :
    (after (.registerWrite 0x104#12 0xFFF5FFFF#32) State.reset).readRegister 0x104#12 = 0x80050FFF#32 := by decide

/-- The identification register ignores writes (R173). -/
theorem test_identification :
    (after (.registerWrite 0x000#12 0#32) State.reset).readRegister 0x000#12 = 0x3A501601#32 := by decide

/-- A CONTROL write of JOIN and Inbound Enable through the window enters LISTENING (R103, R171). -/
theorem test_control_join :
    (after (.registerWrite 0x004#12 0x101#32) State.reset).membership.link = .listening ∧
      (after (.registerWrite 0x004#12 0x101#32) State.reset).inbound.enable = true := by decide

/-- A byte access through CS-REG ends with a bus error (R169). -/
theorem test_byte_access :
    after (.registerAccessInvalid true .byte 0x00C#12) State.reset = State.reset.answerHost .busError := by decide

/-! ## Requests and replies -/

/-- Example 3.6, step 1: an ATOMIC-REQ from 2 with tag 3, issue 1, draws ACCEPT and opens the record. -/
theorem test_atomic_request_accepted :
    (after (.atomicReq 2 3 true 7 0 (.fetchAdd 1#32)) (inPhase .frame (station .online 11))).link.driving = some .accept ∧
    (after (.atomicReq 2 3 true 7 0 (.fetchAdd 1#32)) (inPhase .frame (station .online 11))).filterAt 2 3 =
      { issue := true, state := .opened } := by decide

/-- Example 3.6, step 4 at station 11: the repeat draws ACCEPT and adds nothing. -/
theorem test_repeat_adds_nothing :
    (after (.atomicReq 2 3 true 7 0 (.fetchAdd 1#32))
      (inPhase .frame (withListed (listed 2 3 (.atomic (.fetchAdd 1#32)) .executing) (station .online 11)))).inbound.list.length
      = 1 := by decide

/-- Example 3.6, step 2: the page is cached, the rights pass, and a locked cycle is asked for at 00450000h. -/
theorem test_execution_start_hit :
    (after .executionStart
      { withListed (listed 2 3 (.atomic (.fetchAdd 1#32)) .fresh) (station .online 11) with
        map := { WindowMap.initial with cache := [{ page := 7, entry := openPage 0x00450#20 }] } }).port.current =
      some
        { requester := .engine, request := { kind := .locked (.fetchAdd 1#32), addr := 0x00450000#32 }, discard := .clear
          old := none } := by decide

/-- Example 3.6, step 5: the write phase stores 42, and the reply carries 41. -/
theorem test_write_phase :
    readWord
      (after (.lockedWritePhaseEnd Transfer.plain)
        (withCycle .engine (.locked (.fetchAdd 1#32)) .clear (some 41#32)
          (withListed (listed 2 3 (.atomic (.fetchAdd 1#32)) .executing) (station .online 11)))).memory 0x450000#32 = 42#32 ∧
    ((after (.lockedWritePhaseEnd Transfer.plain)
        (withCycle .engine (.locked (.fetchAdd 1#32)) .clear (some 41#32)
          (withListed (listed 2 3 (.atomic (.fetchAdd 1#32)) .executing) (station .online 11)))).inbound.list.map
      ListEntry.data) = [[41#32]] := by decide

/-- Example 9.7, step 5: the end of a marked locked cycle removes the orphan with no event. -/
theorem test_marked_write_phase :
    (after (.lockedWritePhaseEnd Transfer.plain)
        (withCycle .engine (.locked (.fetchAdd 5#32)) .byConflict (some 41#32)
          (withListed { listed 2 3 (.atomic (.fetchAdd 5#32)) .executing with orphaned := true }
            (station .conflict 7)))).inbound.list = [] ∧
    (after (.lockedWritePhaseEnd Transfer.plain)
        (withCycle .engine (.locked (.fetchAdd 5#32)) .byConflict (some 41#32)
          (withListed { listed 2 3 (.atomic (.fetchAdd 5#32)) .executing with orphaned := true }
            (station .conflict 7)))).events.records = [] := by decide

/-- 2.9, step 6: the slot read ACCEPT empties the list and closes the record. -/
theorem test_reply_acknowledged :
    (after (.replyAcknowledge 0#3)
      (sending (.reply 3 5) 3 (withListed (listed 3 5 (.read 4) .replyOnAir) (station .online 6)))).filterAt 3 5 =
      { issue := true, state := .closed } := by decide

/-- A request to a station whose list holds 8 entries draws BUSY (R23). -/
theorem test_full_list_busy :
    (after (.readReq 3 0 true 0 0 1)
      (inPhase .frame ((station .online 6).withList (List.replicate 8 (listed 2 3 (.read 1) .fresh)) []))).link.driving =
      some .busy := by decide

/-! ## Transactions -/

/-- Example 4.9, step 3: own station 4 reads NONE and backs off for 96 BT. -/
theorem test_none_backs_off :
    ((after (.requestAcknowledge 0b111#3)
      (sending (.transaction 0) 9 (withEntry 0 (entry (.slot 1) 9 (.write 3 8 2) .onAir) (station .online 4)))).entryAt 0).map
      TransEntry.state = some (.backoff 96) := by decide

/-- Example 4.9, step 5': ACCEPT starts the timer of 40 × 50 µs. -/
theorem test_accept_waits :
    ((after (.requestAcknowledge 0b000#3)
      (sending (.transaction 0) 9 (withEntry 0 (entry (.slot 1) 9 (.write 3 8 2) .onAir) (station .online 4)))).entryAt 0).map
      TransEntry.state = some (.waiting 2000000) := by decide

/-- Example 4.9, step 5: the RESPONSE ends an entry in BACKOFF, and slot 1 is DONE with OK. -/
theorem test_response_ends_backoff :
    (after (.response 9 0 true .ok [])
      (inPhase .frame (withEntry 0 (entry (.slot 1) 9 (.write 3 8 2) (.backoff 50)) (station .online 4)))).slots[1].status =
      some .ok := by decide

/-- Example 4.9, step 1: GO takes tag 0, whose issue bit becomes 1, and the outbound status reads 1 allocated. -/
theorem test_go_allocates :
    ((after (.go 0) (withSlot 2#4 9 .idle (station .online 4))).entryAt 0).map TransEntry.issue = some true ∧
      (after (.go 0) (withSlot 2#4 9 .idle (station .online 4))).readRegister 0x020#12 = 1#32 := by decide

/-- Example 8.9, step 3: CANCEL in WAITING sets both marks and ends nothing. -/
theorem test_cancel_waiting :
    (after (.cancel 0)
      (withEntry 0 (entry (.slot 0) 9 (.read 30 0 8) (.waiting 9)) (withSlot 1#4 9 .entry (station .online 2)))).slots[0].cancelPending
      = true ∧
    ((after (.cancel 0)
      (withEntry 0 (entry (.slot 0) 9 (.read 30 0 8) (.waiting 9)) (withSlot 1#4 9 .entry (station .online 2)))).entryAt 0).map
      TransEntry.cancel = some true := by decide

/-- Example 8.9, step 6: the RESPONSE of a cancelled transaction ends the slot CANCELLED with its buffer as it was. -/
theorem test_response_to_cancelled :
    (after (.response 9 0 true .ok (List.replicate 8 7#32))
      (inPhase .frame
        (withEntry 0 { entry (.slot 0) 9 (.read 30 0 8) (.waiting 9) with cancel := true }
          (withSlot 1#4 9 .entry (station .online 2))))).slots[0] =
      { Slot.initial with kind := 1#4, target := 9, count := 1#8, state := .done, status := some .cancelled } := by decide

/-- The third NO-ACK end in a row makes a station SILENT under the reset threshold of 3 (R117). -/
theorem test_third_no_ack :
    (((station .online 4).setRoster 9 { state := .present, count := 2 }).countNoAck 9).membership.roster[(9 : Station)] =
      { state := .silent, count := 3 } := by decide

/-! ## The aperture -/

/-- Example 7.8, step 1: the first store for a target is TAKEN at once. -/
theorem test_first_store_is_taken :
    (after (.apertureStore 0#18 .word 1#32) (withApertureMap (station .online 5))).aperture.posted.map PostedEntry.taken =
      [true] := by decide

/-- Example 7.8, step 3: a byte store A1h to lane 0 of the next word extends the newest entry. -/
theorem test_byte_store_extends :
    ((after (.apertureStore 8#18 .byte 0xA1000000#32)
      (withPosted [posted 0 3 true, posted 1 3 false] (withApertureMap (station .online 5)))).aperture.posted.map
        PostedEntry.words) =
      [[{ mask := 15#4, data := 9#32 }], [{ mask := 15#4, data := 9#32 }, { mask := 1#4, data := 0xA1000000#32 }]] := by
  decide

/-- Example 7.8, step 6: the RESPONSE that removes the first entry presents the next for its target in the same happening
(R125, R127). -/
theorem test_removal_presents_the_next :
    (after (.response 3 0 true .ok [])
      (inPhase .frame
        (withEntry 0 (entry (.posted 0) 3 (.write 100 1 1) (.waiting 9))
          (withPosted [posted 0 3 true, posted 1 3 false] (station .online 5))))).aperture.posted =
      [posted 1 3 true] := by decide +kernel

/-- The removal that empties the buffer completes the held fence read with the count (R127, R132). -/
theorem test_removal_completes_the_fence_read :
    (after (.response 3 0 true .boundary [])
      (inPhase .frame
        (withEntry 0 (entry (.posted 0) 3 (.write 100 1 1) (.waiting 9))
          (holding .fence (withPosted [posted 0 3 true] (station .online 5)))))).host.reply = some (.data 1#32) := by decide +kernel

/-- Example 7.8, step 14: the fence register returns the failures and clears the count. -/
theorem test_fence_read :
    (after .fenceRead
        { station .online 5 with aperture := { Aperture.initial with failures := 1 } }).host.reply = some (.data 1#32) ∧
    (after .fenceRead
        { station .online 5 with aperture := { Aperture.initial with failures := 1 } }).aperture.failures = 0 := by decide

/-! ## CONFLICT and events -/

/-- Example 10.6: three posted entries fail at CONFLICT; the count is 3, and the held load ends with a bus error. -/
theorem test_conflict_with_posted_entries :
    let t := after .ownSourceFrameHeard
      (inPhase .frame
        (holding (.load (heldLoad [1])) (withPosted [posted 0 2 true, posted 1 4 true, posted 2 6 true] (station .online 11))))
    t.aperture.failures = 3 ∧ t.host.reply = some .busError ∧
      t.events.records.map EventRecord.kind =
        [.stationConflict, .postedWriteFailed, .postedWriteFailed, .postedWriteFailed, .apertureReadFailed] ∧
      t.membership.link = .conflict := by decide

/-- The POP that empties the queue clears the overflow flag (R164). -/
theorem test_last_pop_clears_overflow :
    (after (.eventPop 0#32)
      { State.reset with events := { records := [EventRecord.bare .maintRefused], overflow := true } }).events =
      { records := [], overflow := false } := by decide

/-- At CONFLICT a held store ends with the last record of the happening (R124, R161). -/
theorem test_conflict_with_held_store :
    (after .ownSourceFrameHeard
      (inPhase .frame (holding (.store heldStore) (withPosted [posted 0 2 true] (station .online 11))))).events.records.map
      EventRecord.kind = [.stationConflict, .postedWriteFailed, .apertureRefused] := by decide

/-- Seven recessive bits of a violation are idle already (R79, R80). -/
theorem test_bad_frame_idle :
    (after (.badFrame 7) (inPhase .frame (station .online 4))).link.idleLength = 7 := by decide

/-- A code begun at a soft reset is driven to the end of its third bit: two bits of four remain, one of the slot (R99). -/
theorem test_slot_begun_at_soft_reset :
    (after (.softReset false) (inPhase (.ending 2) ((station .online 4).drive .busy))).link.slotLeft = some 1 ∧
      (after .acknowledgeSlotCompleted
        (after (.softReset false) (inPhase (.ending 2) ((station .online 4).drive .busy)))).link = LinkUnit.initial := by decide

/-- The LINK cause is bit 6 (R175) and is cleared by a 1 there (R167). -/
theorem test_link_cause :
    (after (.join 4 3#2 false true) State.reset).readRegister 0x014#12 = 0x40#32 ∧
      (after (.linkCauseClear 0x40#32) (after (.join 4 3#2 false true) State.reset)).readRegister 0x014#12 = 0#32 := by
  decide

/-! ## Steps of the whole part -/

/-- Two commands in the queue: a step runs the first and leaves the second. -/
theorem test_step_takes_the_front :
    (match step { State.reset with pending := [.join 4 3#2 false true, .update] } with
     | .next t => (t.membership.link, t.pending)
     | _ => (.offline, [])) = (.listening, [.update]) := by decide

/-- With nothing due, a step is one bit time of an idle medium. -/
theorem test_idle_step :
    (match step (station .online 4) with
     | .next t => t.link.idleLength
     | _ => 0) = 1 := by decide

/-! ## Witnesses: for each statement with hypotheses, states and operands that meet them, clause by clause -/

/-- A station whose BACKOFF and WAITING entries have one unit left. -/
def counting : State :=
  { station .online 4 with outbound :=
    { Outbound.initial with
      table :=
        (Outbound.initial.table.set 0 (some (entry (.slot 0) 9 .probe (.backoff 1)))).set 15
          (some (entry (.slot 1) 9 (.read 0 0 1) (.waiting 1))) } }

theorem witness_BlockedAccessesWaitAndResetLowFreezes :
    (isHostAccess .update = true ∧ (holding .fence (station .online 4)).hostBlocked = true ∧
      (low State.reset).hostBlocked = true ∧ ((station .online 4).waitOnBus .read).hostBlocked = true ∧
      ({ State.reset with host := { State.reset.host with startup := some 0 } } : State).hostBlocked = true) ∧
    (isHostAccess .startMarker = false ∧ (∀ p, Instr.startMarker ≠ .resetReleased p) ∧
      (low State.reset).pins.resetLow = true) :=
  ⟨by decide, by decide, fun p h => Instr.noConfusion h, by decide⟩

theorem witness_IdleStepIsOneBitTime :
    -- one bit time, over an IDLE medium and in every other phase
    (∀ p ∈ [MediumPhase.idle, .recovering, .sync 0, .frame, .ending 1, .ending 2, .ending 4],
      (inPhase p counting).pending = [] ∧ (inPhase p counting).due = none ∧ (inPhase p counting).pins.resetLow = false ∧
        (inPhase p counting).host.waiting = [] ∧ (inPhase p counting).link.attached = true ∧
        (inPhase p counting).membership.link ≠ .offline ∧ (inPhase p counting).link.phase = p) ∧
    counting.outbound.table[(0 : Tag)] = some (entry (.slot 0) 9 .probe (.backoff 1)) ∧
    counting.outbound.table[(15 : Tag)] = some (entry (.slot 1) 9 (.read 0 0 1) (.waiting 1)) ∧
    counting.outbound.table[(1 : Tag)] = none ∧
    (withEntry 3 (entry (.slot 0) 9 .probe .onAir) (receiving .online)).due = none ∧
    -- a code that a soft reset found begun, in OFFLINE and after a JOIN, and a start-up that runs
    (∀ s ∈ [slotDriven 2 (station .offline 4), inPhase (.sync 1) (slotDriven 2 (station .listening 4)),
        { station .online 4 with host := { State.reset.host with startup := some 16 } }],
      s.pending = [] ∧ s.due = none ∧ s.pins.resetLow = false ∧ s.host.waiting = []) ∧
    -- a posted entry that is due, and an access that waits
    ((withPosted [posted 0 3 false] (station .online 4)).pending = [] ∧
      (withPosted [posted 0 3 false] (station .online 4)).due = some (.postedEntryPresented 0)) ∧
    (∀ s ∈ [(station .online 4).waitOnBus .read, holding .fence (withPosted [posted 0 3 true] ((station .online 4).waitOnBus .read))],
      s.pending = [] ∧ s.due = none ∧ s.pins.resetLow = false ∧ s.host.startup = none ∧ s.host.waiting = [.read]) ∧
    ((station .online 4).waitOnBus .read).host.held = none ∧
    (low (station .online 4)).pending = [] := by decide

theorem witness_ResetReleasedGivesPowerOnValues : (low (station .online 4)).pins.resetLow = true := by decide

theorem witness_ResetPinGoesLowAndHostPortReturns :
    (station .online 4).pins.resetLow = false ∧ (holding .fence (station .online 4)).host.held ≠ none ∧
      (station .online 4).host.held = none ∧ (station .online 4).port.current = none ∧
      (sending .leave 0 (station .draining 4)).onAir ≠ none ∧
      ((withCycle .engine (.dataRead 16) .clear none (station .online 4)).port.current.map fun c => c.request.kind) =
        some (.dataRead 16) := by decide

/-- Cycles on the Local Bus: a map read, the two phases of a locked cycle, and writes. -/
theorem witness_ResetPinGoesLowAndHostPortReturns_cycles :
    (∀ o ∈ [none, some 7#32],
      (withCycle .engine (.locked (.swap 0#32)) .clear o (station .online 4)).port.current =
        some
          { requester := .engine, request := { kind := .locked (.swap 0#32), addr := 0x450000#32 }, discard := .clear
            old := o }) ∧
    (AtomicOp.swap 0#32).newValue 7#32 = some 0#32 ∧
    (∀ k ∈ [CycleKind.mapRead 4095, .maskedWrite [{ mask := 0xF#4, data := 1#32 }], .mapWrite 4095 MapEntry.zero],
      (withCycle .maintenance k .clear none (station .online 4)).port.current =
        some { requester := .maintenance, request := { kind := k, addr := 0x450000#32 }, discard := .clear, old := none }) :=
  ⟨fun _ _ => rfl, rfl, fun _ _ => rfl⟩

theorem witness_IdentificationReadsTheSameAlways : (station .conflict 15).hostBlocked = false := by decide

theorem witness_ApertureMapRegisterHoldsWhatIsWritten : (station .draining 15).hostBlocked = false := by decide

theorem witness_InvalidRegisterAccessEndsWithABusError :
    (station .online 4).hostBlocked = false ∧ (0xFFF#12).toNat % 4 ≠ 0 ∧
      (low (station .online 4)).hostBlocked = true ∧ (0x0FC#12).toNat = 0x0FC ∧ (0x400#12).toNat = 0x400 ∧
      0x0FC#12 ≠ 0x028#12 ∧ 0x400#12 ≠ 0x028#12 := by decide

theorem witness_InvalidRegisterAccessEndsWithABusError_offsets :
    ∀ a ∈ [0x0FC, 0x400],
      a % 4 = 0 ∧ a ∉ [0x004, 0x00C, 0x010, 0x014, 0x018, 0x034, 0x04C, 0x060, 0x064, 0x068, 0x06C] ∧
        (a < 0x100 ∨ 0x400 ≤ a) := by simp

/-- The first and the last unassigned offset of slots 0 and 3, and the bounds of the ranges that read 0. -/
theorem witness_InvalidRegisterAccessEndsWithABusError_slots :
    (0x228#12).toNat = 0x200 + 0x80 * (0 : SlotNo).val + 0x28 ∧ (0x3BC#12).toNat = 0x200 + 0x80 * (3 : SlotNo).val + 0x3C ∧
      (0x21C#12).toNat = 0x200 + 0x80 * (0 : SlotNo).val + 0x1C ∧ (0x0C0#12).toNat = 0x0C0 ∧ (0x07C#12).toNat = 0x07C := by
  decide

theorem witness_JoinAndLeaveActByLinkState :
    (∀ l ∈ [LinkState.offline, .listening, .announcing, .online, .draining, .conflict],
      (station l 15).hostBlocked = false ∧ (station l 15).membership.link = l) ∧
    ((0x3#32).getLsbD 2 = false ∧ (0x3#32).getLsbD 0 = true) ∧
    ((0x102#32).getLsbD 2 = false ∧ (0x102#32).getLsbD 0 = false ∧ (0x102#32).getLsbD 1 = true) := by decide

theorem witness_SoftResetKeepsOnlyWhatItsRuleKeeps :
    (station .online 4).hostBlocked = false ∧ (station .online 4).link.driving = none ∧
      -- a code decided at the end of the CRC, one with its last bit to come, and one that an earlier soft reset found
      (∀ n ∈ [4, 1],
        (inPhase (.ending n) ((station .online 4).drive .accept)).hostBlocked = false ∧
          (inPhase (.ending n) ((station .online 4).drive .accept)).link.driving = some .accept ∧
          (inPhase (.ending n) ((station .online 4).drive .accept)).link.slotLeft = none ∧
          (inPhase (.ending n) ((station .online 4).drive .accept)).link.phase = .ending n) ∧
      ((slotDriven 0 (station .offline 4)).hostBlocked = false ∧
        (slotDriven 0 (station .offline 4)).link.driving = some .stale ∧
        (slotDriven 0 (station .offline 4)).link.slotLeft = some 0) ∧
      (4#32).getLsbD 2 = true := by decide

theorem witness_InboundEnableAndStartConfigurationWrites :
    State.reset.hostBlocked = false ∧ State.reset.membership.link = .offline ∧
      (station .listening 0).hostBlocked = false ∧ (station .listening 0).membership.link ≠ .offline ∧
      (0xFFFFFFF8#32).extractLsb' 0 3 = 0#3 := by decide

theorem witness_InterruptRegistersAndCauses : (station .online 4).hostBlocked = false := by decide

theorem witness_EveryLinkStateChangeSetsTheLinkCause :
    exec (.join 4 3#2 false true) State.reset = .next (after (.join 4 3#2 false true) State.reset) ∧
      (after (.join 4 3#2 false true) State.reset).membership.link ≠ State.reset.membership.link := ⟨rfl, by decide⟩

/-- A queue of one signal whose record is CLOSED. -/
def oneSignal : State :=
  ({ station .online 4 with signals := [{ source := 3, value := 0xFFFFFFFF#32 }] } : State).setFilter 3 15
    { issue := true, state := .closed }

theorem witness_SignalPopRemovesTheHead :
    ((station .online 4).hostBlocked = false ∧ (station .online 4).signals = []) ∧
    (oneSignal.hostBlocked = false ∧ oneSignal.signals = [{ source := 3, value := 0xFFFFFFFF#32 }] ∧
      oneSignal.inbound.filter[(3 : Station)][(15 : Tag)] = { issue := true, state := .closed }) ∧
    exec (.signalPop 0#32) ((station .online 4).enlist 3 0 true (.signal 1#32)) =
      .next (after (.signalPop 0#32) ((station .online 4).enlist 3 0 true (.signal 1#32))) ∧
    exec (.signalPop 0#32) (station .online 4) = .next (after (.signalPop 0#32) (station .online 4)) :=
  ⟨by decide, by decide, rfl, rfl⟩

/-- A queue of `n` records. -/
def events (n : Nat) : State :=
  { station .online 4 with events := { records := List.replicate n (EventRecord.bare .maintRefused), overflow := false } }

theorem witness_EventAppendKeepsSixteenAndSetsOverflow :
    (events 15).events.records.length < 16 ∧ 16 ≤ (events 16).events.records.length := by decide

theorem witness_EventPopRemovesTheHead :
    ((events 0).hostBlocked = false ∧ (events 0).events.records = []) ∧
    ((events 1).hostBlocked = false ∧ (events 1).events.records = [EventRecord.bare .maintRefused]) ∧
    ((events 2).hostBlocked = false ∧
      (events 2).events.records = EventRecord.bare .maintRefused :: EventRecord.bare .maintRefused :: []) ∧
    (events 16).events.records.length = 16 ∧ (events 16).events.records.tail.length ≤ 15 := by decide

/-- A station whose map maintenance is BUSY. -/
def maintBusy : State :=
  { station .online 4 with map := { WindowMap.initial with maint := { Maintenance.initial with state := .busyUpdate } } }

theorem witness_MaintenanceWritesByState :
    (maintBusy.hostBlocked = false ∧ maintBusy.map.maint.state ≠ .idle) ∧
      (station .online 4).hostBlocked = false ∧ (station .online 4).map.maint.state = .idle := by decide

theorem witness_MaintenanceAsksThePortThatServesItFirst :
    ((station .online 4).hostBlocked = false ∧ (station .online 4).map.maint.state = .idle ∧
      (station .online 4).port.current = none) ∧
    ((withCycle .engine (.dataRead 1) .clear none (station .online 4)).hostBlocked = false ∧
      (withCycle .engine (.dataRead 1) .clear none (station .online 4)).map.maint.state = .idle ∧
      (withCycle .engine (.dataRead 1) .clear none (station .online 4)).port.current ≠ none) ∧
    (∃ s : State, s.port.maintenance = some (mapReadRequest 0#17 4095)) ∧
    (∃ s : State, s.port.maintenance = none ∧ s.port.engine = some { kind := .dataRead 1, addr := 0#32 }) ∧
    ((station .online 4).port.maintenance = none ∧ (station .online 4).port.engine = none) ∧
    (mapReadRequest 0x1FFFF#17 4095).kind = .mapRead 4095 ∧
    (mapWriteRequest 0x1FFFF#17 4095 MapEntry.zero).kind = .mapWrite 4095 MapEntry.zero ∧
    (CycleKind.dataRead 16).isData = true :=
  ⟨by decide, by decide, ⟨{ State.reset with port := { State.reset.port with maintenance := some (mapReadRequest 0#17 4095) } }, rfl⟩,
    ⟨{ State.reset with port := { State.reset.port with engine := some { kind := .dataRead 1, addr := 0#32 } } }, rfl, rfl⟩,
    by decide, rfl, rfl, rfl⟩

theorem witness_InvalidateAllEmptiesTheMapCache :
    (station .online 4).hostBlocked = false ∧ (station .online 4).map.maint.state = .idle := by decide

/-- A transfer that fails. -/
def failing : Transfer := { others := [], reply := .dataError, landed := true }

theorem witness_MaintenanceCycleEnds :
    (let s := withCycle .maintenance (.mapWrite 4095 (openPage 1#20)) .clear none maintBusy
     s.pins.resetLow = false ∧
      s.port.current.map (fun c => (c.requester, c.discard, c.request.kind)) =
        some (.maintenance, .clear, .mapWrite 4095 (openPage 1#20)) ∧
      (writeTransfers (mapEntryWords (openPage 1#20)) 0x450000#32 [] s.memory).1 = .ok ∧
      (writeTransfers (mapEntryWords (openPage 1#20)) 0x450000#32 [Transfer.plain, failing] s.memory).1 ≠ .ok) ∧
    (let s := withCycle .maintenance (.mapRead 0) .clear none maintBusy
     s.pins.resetLow = false ∧
      s.port.current.map (fun c => (c.requester, c.discard, c.request.kind)) = some (.maintenance, .clear, .mapRead 0) ∧
      (readTransfers 2 0x450000#32 [] s.memory).outcome = .ok ∧
      (readTransfers 2 0x450000#32 [failing] s.memory).outcome ≠ .ok) := by decide

theorem witness_MaskedWritesAndMapEntriesInMemory :
    memoryWf [(0, 1#8), (0xFFFFFFFF, 2#8)] = true ∧
      ((8#4).getLsbD (3 : Fin 4) = true ∧ 0xFFFFFFFF = (0xFFFFFFFC#32 + BitVec.ofNat 32 (3 : Fin 4).val).toNat) ∧
      (∀ n : Fin 4, (8#4).getLsbD n = true → 0 ≠ (0xFFFFFFFC#32 + BitVec.ofNat 32 n.val).toNat) := by decide

theorem witness_SlotWritesAndCommandsByState :
    (∀ st ∈ [SlotState.fence [], .entry], (withSlot 1#4 3 st (station .online 4)).hostBlocked = false ∧
      (withSlot 1#4 3 st (station .online 4)).slots[0].state.issued = true) ∧
    (∀ st ∈ [SlotState.idle, .done], (withSlot 1#4 3 st (station .online 4)).hostBlocked = false ∧
      (withSlot 1#4 3 st (station .online 4)).slots[0].state.issued = false ∧
      (withSlot 1#4 3 st (station .online 4)).slots[0].state = st) := by decide

theorem witness_GoChecksAndThenWaitsForNotedEntries :
    ((withSlot 8#4 3 .idle (station .online 4)).slots[0].state.issued = false ∧
      ¬(withSlot 8#4 3 .idle (station .online 4)).slots[0].kind.toNat ≤ 7) ∧
    (∀ es ∈ [[posted 7 3 true], [posted 7 5 true]],
      let s := withSlot 1#4 3 .done (withPosted es (station .online 4))
      s.hostBlocked = false ∧ s.slots[0].state.issued = false ∧ s.membership.link = .online ∧
        1 ≤ s.slots[0].kind.toNat ∧ s.slots[0].kind.toNat ≤ 7 ∧ 1 ≤ s.slots[0].count.toNat ∧
        s.slots[0].count.toNat ≤ 16 ∧ s.slots[0].page.toNat ≤ 4095 ∧ s.slots[0].offset.toNat ≤ 1023) ∧
    -- an entry for the target of the slot, and one for another station
    ((posted 7 3 true).target = 3 ∧ ∀ e ∈ [posted 7 5 true], e.target ≠ 3) ∧
    (withSlot 7#4 3 .idle (station .draining 4)).membership.link ≠ .online := by decide

theorem witness_CancelEndsOrMarks :
    ((withSlot 1#4 3 (.fence [7]) (station .online 4)).hostBlocked = false ∧
      (withSlot 1#4 3 (.fence [7]) (station .online 4)).slots[0].state = .fence [7]) ∧
    (∀ st ∈ [TransState.queued, .backoff 0, .onAir, .waiting 0],
      (withEntry 15 (entry (.slot 0) 3 (.read 0 0 1) st) (withSlot 1#4 3 .entry (station .online 4))).hostBlocked = false ∧
      (withEntry 15 (entry (.slot 0) 3 (.read 0 0 1) st) (withSlot 1#4 3 .entry (station .online 4))).slots[0].state =
        .entry ∧
      (withEntry 15 (entry (.slot 0) 3 (.read 0 0 1) st) (withSlot 1#4 3 .entry (station .online 4))).outbound.table[(15 : Tag)]
        = some (entry (.slot 0) 3 (.read 0 0 1) st)) ∧
    (∀ h : Tag,
      (withEntry 15 (entry (.slot 0) 3 (.read 0 0 1) .queued) (station .online 4)).outbound.table[h] ≠ none → h = 15) := by
  decide

/-- All tags but the last are taken. -/
def lastTagFree (s : State) : State :=
  { s with outbound :=
    { s.outbound with table := (Vector.replicate 16 (some (entry (.slot 3) 9 .probe .onAir))).set 15 none } }

theorem witness_SlotPresentedIsCheckedAndAllocated :
    -- another station, and the own one
    (∀ i ∈ [(3 : Station), 4],
      let s := withSlot 1#4 i (.fence []) (lastTagFree (station .online 4))
      s.pins.resetLow = false ∧ s.slots[0].state = .fence [] ∧ s.slots[0].transaction = some (.read 0 0 1) ∧
        s.membership.link = .online ∧ s.membership.roster[s.slots[0].target].state ≠ .silent ∧
        s.membership.roster[s.slots[0].target].state ≠ .departed ∧ s.slots[0].target = i ∧
        s.outbound.table[(15 : Tag)] = none ∧ ∀ h : Tag, h < 15 → s.outbound.table[h] ≠ none) ∧
    ((station .online 4).membership.own = 4 ∧
      ((station .online 4).withNewEntry 15 (.slot 0) 4 (.read 0 0 1) .onAir []).outbound.table[(15 : Tag)] =
        some { entry (.slot 0) 4 (.read 0 0 1) .onAir with issue := true } ∧
      (station .online 4).loopbackOffer (entry (.slot 0) 4 (.read 0 0 1) .onAir) = some (.request 0 0 (.read 1))) ∧
    (withSlot 7#4 4 (.fence []) (station .online 4)).slots[0].transaction = some .probe ∧
    (withSlot 7#4 3 (.fence []) (station .conflict 4)).membership.link ≠ .online ∧
    (∀ st ∈ [RosterState.silent, .departed],
      ((withSlot 1#4 3 (.fence []) (station .online 4)).setRoster 3
        { state := st, count := 3 }).membership.roster[(3 : Station)].state = st) ∧
    (∀ k ∈ [1#4, 2#4, 3#4, 4#4, 5#4],
      let sl := { Slot.initial with kind := k, page := 4095#16, offset := 1023#16, count := 16#8 }
      sl.page.toNat ≤ 4095 ∧ sl.offset.toNat ≤ 1023 ∧ 1 ≤ sl.count.toNat ∧ sl.count.toNat ≤ 16 ∧ sl.kind.toNat = k.toNat) ∧
    (∀ k ∈ [0#4, 6#4, 7#4, 8#4, 15#4],
      let sl := { Slot.initial with kind := k, page := 4096#16, offset := 1024#16, count := 17#8 }
      sl.kind.toNat = k.toNat) := by decide

/-- An empty buffer holds no eligible entry. -/
theorem noneEligible_of_empty (s : State) (h : s.aperture.posted = []) : s.noneEligible := by
  intro pre e post hp
  simp [h] at hp

theorem witness_AnEndDeliversOneStatusToItsOrigin :
    (withEntry 15 (entry (.slot 0) 3 .probe .onAir) (station .online 4)).outbound.table[(15 : Tag)] =
      some (entry (.slot 0) 3 .probe .onAir) ∧
    (withPosted [posted 7 3 true] (station .online 4)).aperture.posted.find? (fun f => f.place == 7) =
      some (posted 7 3 true) ∧
    (holding (.load (heldLoad [])) (station .online 4)).host.held = some (.load (heldLoad [])) ∧
    ((withSlot 1#4 3 (.fence [7]) (station .online 4)).slots[0].state = .fence [7]) ∧
    -- nothing due
    ((station .online 4).noneEligible ∧ (station .online 4).noStoreDue ∧ (station .online 4).noLoadDue ∧
      (station .online 4).noSlotDue ∧ (station .online 4).noFenceDue) ∧
    -- an eligible entry, the oldest
    (eligibleAt [] (posted 0 3 false) [posted 1 3 false] ∧
      ∀ a f b, [posted 0 3 false, posted 1 3 false] = a ++ f :: b → ([] : List PostedEntry).length ≤ a.length) ∧
    -- a store, a load, a slot and a fence read due
    ((holding (.store heldStore) (station .online 4)).noneEligible ∧
      ¬(holding (.store heldStore) (station .online 4)).noStoreDue) ∧
    ¬(holding (.load (heldLoad [])) (station .online 4)).noLoadDue ∧
    ((withSlot 1#4 3 (.fence []) (station .online 4)).noStoreDue ∧
      (withSlot 1#4 3 (.fence []) (station .online 4)).noLoadDue ∧
      (withSlot 1#4 3 (.fence []) (station .online 4)).slots[0].state = .fence []) ∧
    ((holding .fence (station .online 4)).noSlotDue ∧ ¬(holding .fence (station .online 4)).noFenceDue) := by
  refine ⟨by decide, by decide, by decide, by decide, ⟨noneEligible_of_empty _ rfl, ?_, ?_, ?_, ?_⟩,
    ⟨⟨by decide, by decide, by decide⟩, fun a f b _ => Nat.zero_le _⟩, ⟨noneEligible_of_empty _ rfl, ?_⟩, ?_,
    ⟨?_, ?_, by decide⟩, ?_, ?_⟩
  · exact fun h hh => by cases hh
  · exact fun h hh => by cases hh
  · unfold State.noSlotDue; decide
  · exact fun hh => by cases hh
  · exact fun hn => absurd ((hn heldStore rfl).2 rfl) (by decide)
  · exact fun hn => absurd (hn (heldLoad []) rfl rfl) (by decide)
  · exact fun h hh => by cases hh
  · exact fun h hh => by cases hh
  · unfold State.noSlotDue; decide
  · exact fun hn => hn rfl rfl

theorem witness_MisalignedOrRefusedAccessEndsWithABusError :
    ((station .online 4).hostBlocked = false ∧ accessLanes .word (apertureByte 0x3FFFD#18) = none) ∧
    ((station .draining 4).hostBlocked = false ∧ accessLanes .halfword (apertureByte 0x3FFFE#18) ≠ none ∧
      (station .draining 4).membership.link ≠ .online) ∧
    ((station .online 4).membership.link = .online ∧
      ((station .online 4).aperture.map[aperturePage 0x3FFFE#18]).valid = false) := by decide

/-- Eight entries, the newest TAKEN. -/
def fullBuffer (s : State) : State :=
  withPosted
    [posted 0 3 true, posted 1 4 true, posted 2 5 true, posted 3 6 true, posted 4 7 true, posted 5 8 true, posted 6 9 true,
      posted 7 10 true] s

theorem witness_StoresMergeAppendOrAreHeld :
    (let s := withPosted [posted 0 3 true, posted 1 3 false] (withApertureMap (station .online 5))
     s.hostBlocked = false ∧ s.membership.link = .online ∧ accessLanes .byte (apertureByte 4#18) = some 1#4 ∧
      s.aperture.map[aperturePage 4#18] = { valid := true, target := 3, page := 100 } ∧
      s.aperture.posted = [posted 0 3 true] ++ [posted 1 3 false] ∧ (posted 1 3 false).taken = false ∧
      (posted 1 3 false).words = [] ++ [{ mask := Lanes.all, data := 9#32 }] ∧
      -- the last word of the entry, and the word after it
      (apertureWord 4#18).val + 1 = (posted 1 3 false).first.val + (posted 1 3 false).words.length ∧
      (apertureWord 8#18).val = (posted 1 3 false).first.val + (posted 1 3 false).words.length) ∧
    (let s := withPosted [posted 0 3 true] (withApertureMap (station .online 5))
     (posted 0 3 true).taken ≠ false ∧ s.aperture.posted.length < 8 ∧ ∃ e ∈ s.aperture.posted, e.target = 3) ∧
    -- no entry for the target, with another station as target and with the own one
    (∀ own ∈ [(5 : Station), 3],
      let s := lastTagFree (withPosted [posted 0 4 true] (withApertureMap (station .online own)))
      s.hostBlocked = false ∧ (posted 0 4 true).target ≠ 3 ∧ s.aperture.posted.length < 8 ∧
        (∀ e ∈ s.aperture.posted, e.target ≠ 3) ∧ s.membership.own = own ∧
        s.membership.roster[(3 : Station)].state ≠ .silent ∧ s.membership.roster[(3 : Station)].state ≠ .departed ∧
        s.outbound.table[(15 : Tag)] = none ∧ ∀ h : Tag, h < 15 → s.outbound.table[h] ≠ none) ∧
    (∀ st ∈ [RosterState.silent, .departed],
      ((station .online 5).setRoster 3 { state := st, count := 3 }).membership.roster[(3 : Station)].state = st) ∧
    8 ≤ (fullBuffer (withApertureMap (station .online 5))).aperture.posted.length ∧
    (let s := holding (.store heldStore) (withPosted [posted 0 3 true] (station .online 5))
     s.pins.resetLow = false ∧ s.host.held = some (.store heldStore) ∧ s.membership.link = .online ∧
      s.aperture.posted.length < 8) ∧
    (holding (.store heldStore) (station .conflict 5)).membership.link = .conflict := by decide

theorem witness_PostedEntryPresentedBecomesTakenOrFails :
    -- another station as target, and the own one
    ∀ own ∈ [(5 : Station), 3],
      let s := lastTagFree (withPosted ([posted 0 4 true] ++ posted 1 3 false :: [posted 2 3 false]) (station .draining own))
      s.pins.resetLow = false ∧ (s.membership.link = .online ∨ s.membership.link = .draining) ∧
        s.aperture.posted = [posted 0 4 true] ++ posted 1 3 false :: [posted 2 3 false] ∧
        (posted 1 3 false).taken = false ∧ (∀ f ∈ [posted 0 4 true], f.target ≠ (posted 1 3 false).target) ∧
        (∀ f ∈ [posted 2 3 false], f.target = (posted 1 3 false).target → f.taken = false) ∧
        (∀ f ∈ [posted 0 4 true] ++ [posted 2 3 false], f.place ≠ (posted 1 3 false).place) ∧
        s.membership.roster[(posted 1 3 false).target].state ≠ .silent ∧
        s.membership.roster[(posted 1 3 false).target].state ≠ .departed ∧ s.membership.own = own ∧
        s.outbound.table[(15 : Tag)] = none ∧ ∀ h : Tag, h < 15 → s.outbound.table[h] ≠ none := by decide

theorem witness_PostedEntryPresentedBecomesTakenOrFails_ends :
    -- the own Inbound Unit answers ACCEPT and the entry stays, or REFUSE and it leaves
    ((withPosted [posted 1 3 false] (station .online 3)).presentPosted (posted 1 3 false)).aperture.posted =
      [posted 1 3 true] ∧
    ((withPosted [posted 1 3 false] (station .draining 3)).presentPosted (posted 1 3 false)).aperture.posted = [] ∧
    -- an entry that is not eligible
    ¬(∀ f ∈ [posted 0 3 true], f.target ≠ (posted 1 3 false).target) ∧
    (fullBuffer (station .online 5)).aperture.posted.length ≤ 8 ∧
    (∀ st ∈ [RosterState.silent, .departed],
      ((station .online 5).setRoster 3
        { state := st, count := 3 }).membership.roster[(posted 1 3 false).target].state = st) := by
  decide

theorem witness_LoadsAreHeldAndPresented :
    (∀ es ∈ [[posted 0 3 true], [posted 0 4 true]],
      let s := withPosted es (withApertureMap (station .online 5))
      s.hostBlocked = false ∧ s.membership.link = .online ∧ accessLanes .word (apertureByte 4092#18) = some 15#4 ∧
        s.aperture.map[aperturePage 4092#18] = { valid := true, target := 3, page := 100 }) ∧
    ((posted 0 3 true).target = 3 ∧ ∀ e ∈ [posted 0 4 true], e.target ≠ 3) ∧
    (∀ own ∈ [(5 : Station), 3],
      let s := lastTagFree (holding (.load (heldLoad [])) (station .online own))
      s.pins.resetLow = false ∧ s.host.held = some (.load (heldLoad [])) ∧ (heldLoad []).noted = [] ∧
        (heldLoad []).presented = false ∧ s.membership.link = .online ∧
        s.membership.roster[(heldLoad []).target].state ≠ .silent ∧
        s.membership.roster[(heldLoad []).target].state ≠ .departed ∧ s.membership.own = own ∧
        s.outbound.table[(15 : Tag)] = none ∧ ∀ h : Tag, h < 15 → s.outbound.table[h] ≠ none) ∧
    (holding (.load (heldLoad [])) (station .draining 5)).membership.link ≠ .online ∧
    (∀ st ∈ [RosterState.silent, .departed],
      ((station .online 5).setRoster 3 { state := st, count := 3 }).membership.roster[(heldLoad []).target].state = st) := by
  decide

theorem witness_FenceReadReturnsAndClearsTheCount :
    ((station .online 4).hostBlocked = false ∧ (station .online 4).aperture.posted = []) ∧
    ((withPosted [posted 0 3 true] (station .online 4)).hostBlocked = false ∧
      (withPosted [posted 0 3 true] (station .online 4)).aperture.posted ≠ []) ∧
    ((holding .fence (station .online 4)).pins.resetLow = false ∧ (holding .fence (station .online 4)).host.held = some .fence ∧
      (holding .fence (station .online 4)).aperture.posted = []) := by decide

/-- An ON-AIR entry after seven attempts. -/
def lastAttempt (body : TransBody) (cancel : Bool) : TransEntry :=
  { entry (.slot 0) 9 body .onAir with attempts := 7, cancel := cancel }

theorem witness_AttemptsGoOnByTheirCode :
    (withEntry 15 (lastAttempt .probe false) (station .online 4)).outbound.table[(15 : Tag)] =
      some (lastAttempt .probe false) ∧
    (TransBody.read 0 0 1).awaitsResponse = true ∧ (TransBody.signal 0#32).awaitsResponse = false ∧
    ((entry (.slot 0) 9 .probe .onAir).cancel = false ∧
      (entry (.slot 0) 9 .probe .onAir).attempts + 1 < (station .online 4).membership.config.attemptLimit.toNat) ∧
    ((lastAttempt .probe false).cancel = false ∧
      (station .online 4).membership.config.attemptLimit.toNat ≤ (lastAttempt .probe false).attempts + 1 ∧
      (lastAttempt .probe false).target ≠ (station .online 4).membership.own) ∧
    (lastAttempt .probe true).cancel = true ∧
    (let r : RosterRecord := { state := .present, count := 1 }
     r.state = .present ∧ r.count + 1 < (station .online 4).membership.config.silentThreshold.toNat ∧
      (station .online 4).membership.config.silentThreshold.toNat ≤ 2 + 1) := by decide

theorem witness_RequestAcknowledgeReportsTheCodeRead :
    (station .online 4).pins.resetLow = false ∧
      (sending (.transaction 15) 9 (station .online 4)).link.phase =
        .own { owner := .transaction 15, frame := { membershipFrame 4 .probe with cls := 2, dest := 9 } } := by decide

theorem witness_LostArbitrationAndReadbackAbort :
    (∀ b ∈ [true, false],
      let e := { entry (.slot 0) 9 .probe .onAir with cancel := b }
      (sending (.transaction 0) 9 (withEntry 0 e (station .online 4))).outbound.table[(0 : Tag)] = some e ∧ e.cancel = b) ∧
    -- a reply after no attempt, and one after its last but one
    (∀ n ∈ [0, 7],
      let e := { listed 9 15 (.read 1) .replyOnAir with attempts := n }
      let s := sending (.reply 9 15) 9 (withListed e (station .online 4))
      s.pins.resetLow = false ∧ s.inbound.list = [] ++ e :: [] ∧ e.source = 9 ∧ e.tag = 15 ∧ e.state = .replyOnAir ∧
        s.link.phase = .own { owner := .reply e.source e.tag, frame := { membershipFrame 4 .probe with cls := 2, dest := 9 } } ∧
        (e.attempts + 1 < s.membership.config.attemptLimit.toNat ↔ n = 0)) ∧
    (sending .leave 0 (station .draining 4)).link.phase =
      .own { owner := .leave, frame := { membershipFrame 4 .probe with cls := 2, dest := 0 } } := by decide

theorem witness_ReplyAcknowledgeRemovesOrRetries :
    (let e := { listed 9 15 (.read 1) .replyOnAir with attempts := 7 }
     let s := sending (.reply 9 15) 9 (withListed e (station .online 4))
     s.pins.resetLow = false ∧
      s.link.phase = .own { owner := .reply e.source e.tag, frame := { membershipFrame 4 .probe with cls := 2, dest := 9 } } ∧
      s.inbound.list = [] ++ e :: [] ∧ e.state = .replyOnAir ∧ s.membership.config.attemptLimit.toNat ≤ e.attempts + 1) ∧
    (listed 9 15 (.read 1) .replyOnAir).attempts + 1 < (station .online 4).membership.config.attemptLimit.toNat ∧
    (1#3 ≠ 0b000#3 ∧ 1#3 ≠ 0b011#3) := by decide

theorem witness_ElapsedIntervalsAct :
    (station .online 4).pins.resetLow = false ∧
    ((withEntry 0 (entry (.slot 0) 9 .probe (.backoff 0)) (station .online 4)).outbound.table[(0 : Tag)] =
        some (entry (.slot 0) 9 .probe (.backoff 0)) ∧ (9 : Station) ≠ (station .online 4).membership.own) ∧
    (withEntry 15 (entry (.slot 0) 9 (.read 0 0 1) (.waiting 0)) (station .online 4)).outbound.table[(15 : Tag)] =
      some (entry (.slot 0) 9 (.read 0 0 1) (.waiting 0)) ∧
    (withListed (listed 9 15 (.read 1) (.replyBackoff 0)) (station .online 4)).inbound.list =
      [] ++ listed 9 15 (.read 1) (.replyBackoff 0) :: [] ∧
    (∀ b ∈ [TransBody.probe, .signal 1#32, .read 0 0 16, .atomic 0 0 (.swap 1#32), .write 0 0 16],
      (withEntry 0 (entry (.slot 0) 4 b (.backoff 0)) (station .draining 4)).outbound.table[(0 : Tag)] =
        some (entry (.slot 0) 4 b (.backoff 0)) ∧ (4 : Station) = (station .draining 4).membership.own ∧
        (station .draining 4).membership.link = .draining) ∧
    -- a posted WRITE of the second entry of the buffer
    (let e := entry (.posted 1) 4 (.write 100 1 1) (.backoff 0)
     let s := withEntry 15 e (withPosted ([posted 0 9 true] ++ posted 1 4 true :: []) (station .online 4))
     s.outbound.table[(15 : Tag)] = some e ∧ s.aperture.posted = [posted 0 9 true] ++ posted 1 4 true :: [] ∧
      (posted 1 4 true).place = 1 ∧ ∀ y ∈ [posted 0 9 true], y.place ≠ 1) := by decide

theorem witness_TransmitOpportunityOffersTheHeadFrame :
    (let e := listed 9 15 (.read 1) .replyReady
     let s := { (withListed e (station .online 4)).withList [e] [(9, 15)] with pending := [] }
     s.pins.resetLow = false ∧ s.link.attached = true ∧ s.link.phase = .idle ∧ s.membership.link = .online ∧
      s.inbound.list = [] ++ e :: [] ∧ e.state = .replyReady ∧ s.inbound.replyOrder = (e.source, e.tag) :: []) ∧
    (let e := entry (.slot 0) 9 .probe .queued
     let s := withEntry 15 e (station .draining 4)
     s.membership.link = .draining ∧ s.inbound.replyOrder = [] ∧ s.outbound.queued = 15 :: [] ∧
      s.outbound.table[(15 : Tag)] = some e ∧ s.link.spent = false ∧ s.membership.announcePending = false ∧
      s.membership.leavePending = false) ∧
    (∀ b ∈ [true, false], ∀ l ∈ [LinkState.announcing, .online],
      let s := membershipPending b false (station l 4)
      s.link.attached = true ∧ s.link.phase = .idle ∧ s.membership.link = l ∧ s.inbound.replyOrder = [] ∧
        s.membership.announcePending = b ∧ s.membership.leavePending = false) ∧
    ((membershipPending false true (station .draining 4)).membership.leavePending = true ∧
      (membershipPending false true (station .draining 4)).membership.announcePending = false) ∧
    ((station .listening 4).membership.link = .listening ∧ (station .conflict 4).membership.link = .conflict) ∧
    ({ station .online 4 with link := { (station .online 4).link with spent := true } } : State).link.spent = true := by
  decide

theorem witness_RequestFramesArbitrationAndSlotCodes :
    (entry (.slot 0) 9 (.read 4095 1023 16) .queued).body = .read 4095 1023 16 ∧
    ((entry (.slot 0) 9 (.write 4095 1023 16) .queued).origin = .slot 0 ∧
      ((station .online 4).writeItems (.slot 0) 16).length = 16) ∧
    (let s := withPosted ([posted 0 4 true] ++ posted 1 3 true :: []) (station .online 4)
     s.aperture.posted = [posted 0 4 true] ++ posted 1 3 true :: [] ∧ (∀ y ∈ [posted 0 4 true], y.place ≠ 1) ∧
      (s.writeItems (.posted 1) 1).length = 1) ∧
    (∀ c ∈ [AckCode.accept, .busy, .refuse, .stale, .nothing], c.slotBits ≠ 0b100#3) := by decide

theorem witness_MembershipFramesAndTheDrain :
    ((sending .announce 0 (station .announcing 4)).link.phase =
        .own { owner := .announce, frame := { membershipFrame 4 .probe with cls := 2, dest := 0 } } ∧
      (station .announcing 4).membership.link = .announcing) ∧
    ((sending .leave 0 (station .draining 4)).link.phase =
        .own { owner := .leave, frame := { membershipFrame 4 .probe with cls := 2, dest := 0 } } ∧
      (station .draining 4).membership.link = .draining) ∧
    ((station .draining 4).pins.resetLow = false ∧ (∀ g : Tag, (station .draining 4).outbound.table[g] = none) ∧
      (station .draining 4).aperture.posted = [] ∧ (station .draining 4).inbound.list = []) ∧
    (withPosted [posted 0 3 true] (station .draining 4)).aperture.posted ≠ [] ∧
    (station .online 4).membership.link ≠ .draining := by decide

theorem witness_MediumHappeningsMoveTheLinkUnit :
    ((station .online 4).pins.resetLow = false ∧ (station .online 4).link.attached = true ∧
      (station .online 4).membership.link ≠ .offline ∧ (station .online 4).link.phase = .idle) ∧
    (inPhase .frame (station .online 4)).link.phase = .frame ∧
    ((station .listening 4).membership.link = .listening ∧ (station .listening 4).link.phase = .idle) ∧
    (inPhase (.sync 0) (station .listening 4)).link.phase = .sync 0 ∧
    ((slotDriven 0 (station .offline 4)).membership.link = .offline ∧
      (slotDriven 0 (station .offline 4)).link.slotLeft = some 0) ∧
    ((slotDriven 2 (station .listening 4)).membership.link ≠ .offline ∧
      (slotDriven 2 (station .listening 4)).link.slotLeft = some 2) := by
  decide

theorem witness_FrameOnTheLineIsReceivedAsSent :
    ({ membershipFrame 15 (.writeReq 4095 1023 (List.replicate 16 { mask := 15#4, data := 0xFFFFFFFF#32 })) with
        cls := 1, length := 16 } : RawFrame).carriable = true ∧
    ({ membershipFrame 15 (.unnamed 7 []) with cls := 0 } : RawFrame).carriable = true := by decide

theorem witness_AGoodFrameIsAHearingAndMembershipFramesPurge :
    (receiving .conflict).pins.resetLow = false ∧ (receiving .conflict).link.attached = true ∧
      (receiving .conflict).membership.link ≠ .offline ∧ (receiving .conflict).link.phase = .frame ∧
      (15 : Station) ≠ (receiving .conflict).membership.own ∧ (membershipFrame 15 .probe).source = 15 ∧
      ((receiving .conflict).setRoster 15 { state := .silent, count := 7 }).membership.roster[(15 : Station)].count ≤ 7 := by
  decide

theorem witness_AcceptDecisionFollowsItsSteps :
    (((station .online 4).setFilter 3 15 { issue := true, state := .opened }).inbound.filter[(3 : Station)][(15 : Tag)] =
      { issue := true, state := .opened }) ∧
    (((station .online 4).setFilter 3 15 { issue := true, state := .closed }).inbound.filter[(3 : Station)][(15 : Tag)] =
      { issue := true, state := .closed }) ∧
    ((station .online 4).inbound.filter[(3 : Station)][(15 : Tag)] ≠ { issue := true, state := .opened } ∧
      (station .online 4).inbound.filter[(3 : Station)][(15 : Tag)] ≠ { issue := true, state := .closed } ∧
      (station .online 4).inbound.enable = true ∧ (station .online 4).membership.link ≠ .draining ∧
      (station .online 4).inbound.list.length < 8 ∧ (station .online 4).signals.length < 8) ∧
    (State.reset.inbound.enable = false ∧ (station .draining 4).membership.link = .draining) ∧
    (((station .online 4).setFilter 3 15 { issue := false, state := .opened }).inbound.filter[(3 : Station)][(15 : Tag)].state
      = .opened) ∧
    8 ≤ ((station .online 4).withList (List.replicate 8 (listed 2 3 (.read 1) .fresh)) []).inbound.list.length ∧
    8 ≤ ({ station .online 4 with signals := List.replicate 8 { source := 3, value := 0#32 } } : State).signals.length := by
  decide

theorem witness_AddressedFramesAreDecidedAndAnswered :
    (∀ l ∈ [LinkState.online, .draining, .listening, .announcing, .conflict],
      (receiving l).pins.resetLow = false ∧ (receiving l).link.attached = true ∧ (receiving l).membership.link = l ∧
        l ≠ .offline ∧ (receiving l).link.phase = .frame ∧ (15 : Station) ≠ (receiving l).membership.own) ∧
    (∀ st ∈ [RosterState.silent, .departed],
      ((receiving .online).setRoster 15 { state := st, count := 3 }).membership.roster[(15 : Station)].state = st) ∧
    ([{ mask := 0#4, data := 0#32 }] : List MaskedWord).length = 1 ∧ (List.replicate 16 (0 : Nat)).length ≤ 16 := by decide

theorem witness_ResponsesMatchByTagIssueTargetKindAndLength :
    (let e := entry (.slot 0) 9 (.read 0 0 16) (.backoff 1)
     (withEntry 15 e (station .online 4)).outbound.table[(15 : Tag)] = some e ∧ e.issue = true ∧ e.target = 9 ∧
      e.body = .read 0 0 16 ∧ (List.replicate 16 (0#32)).length = 16) ∧
    (entry (.slot 0) 9 .probe .onAir).body = .probe ∧ (station .online 4).outbound.table[(15 : Tag)] = none := by decide

theorem witness_OwnSourceFrameEntersConflict :
    ((receiving .conflict).pins.resetLow = false ∧ (receiving .conflict).link.attached = true ∧
      (receiving .conflict).membership.link = .conflict ∧ (receiving .conflict).link.phase = .frame) ∧
    ((receiving .draining).membership.link ≠ .offline ∧ (receiving .draining).membership.link ≠ .conflict ∧
      (receiving .draining).host.held = none) ∧
    (∀ x ∈ [HeldAccess.load (heldLoad [0]), .store heldStore, .fence],
      let s := holding x (withCycle .engine (.dataRead 1) .clear none (withPosted [posted 0 3 true] (receiving .online)))
      s.host.held = some x ∧ s.port.current.map (fun c => (c.requester, c.discard)) = some (.engine, .clear) ∧
        s.aperture.failures ≤ 255 ∧ s.events.records.length + 2 + s.aperture.posted.length ≤ 16) ∧
    -- a full Event Queue
    ((events 16).events.records.length ≤ 16 ∧ 16 < (events 16).events.records.length + 1) ∧
    -- an ISSUED slot in the fence phase, with a marked entry, and with one that is not marked
    (withSlot 1#4 3 (.fence [0]) (receiving .online)).slots[0].state.issued = true ∧
    (∀ b ∈ [true, false],
      let e := { entry (.slot 0) 3 (.read 0 0 1) .onAir with cancel := b }
      let s := withEntry 15 e (withSlot 1#4 3 .entry (receiving .online))
      s.slots[0].state = .entry ∧ s.slots[0].state.issued = true ∧ s.outbound.table[(15 : Tag)] = some e ∧
        e.origin = .slot 0 ∧ e.cancel = b) := by decide

/-- A station whose cache holds one page. -/
def caching (m : MapEntry) (s : State) : State :=
  { s with map := { s.map with cache := [{ page := 7, entry := m }] } }

theorem witness_ExecutionStartsTheOldestNewEntry :
    -- an entry of another station, and one of the own
    (∀ own ∈ [(4 : Station), 3],
      let e := { listed 3 5 (.read 1) .fresh with offset := 1023 }
      let s := caching (openPage 1#20) (withListed e (station .online own))
      s.pins.resetLow = false ∧ s.inbound.list = [] ++ e :: [] ∧ e.state = .fresh ∧
        (∀ f ∈ s.inbound.list, f.state ≠ .executing) ∧ e.source = 3 ∧ s.membership.own = own ∧ e.orphaned = false ∧
        e.offset.val + e.body.count ≤ 1024 ∧ s.map.cache = [] ++ { page := 7, entry := openPage 1#20 } :: [] ∧
        (openPage 1#20).valid = true ∧ rightsFailure (openPage 1#20) e.source e.body = none) ∧
    1024 < ({ listed 3 5 (.read 2) .fresh with offset := 1023 } : ListEntry).offset.val + (RequestBody.read 2).count ∧
    MapEntry.zero.valid = false ∧
    rightsFailure { openPage 1#20 with readMask := 0#16 } 3 (.read 1) = some .notPermitted ∧
    (∀ c ∈ (station .online 4).map.cache, c.page ≠ 7) ∧
    -- nothing NEW, and an EXECUTING entry
    ((∀ e ∈ (station .online 4).inbound.list, e.state ≠ .fresh) ∧
      ∃ e ∈ (withListed (listed 3 5 (.read 1) .executing) (station .online 4)).inbound.list, e.state = .executing) := by
  decide

/-- A station with a pending fill of page 7. -/
def filling (void : Bool) (s : State) : State := { s with map := { s.map with fill := some { page := 7, void := void } } }

/-- A local memory whose map entry at 00450000h is open. -/
def mapped (s : State) : State :=
  { s with memory := (writeTransfers (mapEntryWords (openPage 1#20)) 0x450000#32 [] []).2 }

theorem witness_MapFillEndInstallsRepeatsOrFails :
    (∀ v ∈ [true, false], ∀ b ∈ [true, false],
      let e := { listed 3 5 (.read 1) .executing with orphaned := b }
      let s := mapped (filling v (withCycle .engine (.mapRead 7) .clear none (withListed e (station .online 4))))
      s.pins.resetLow = false ∧
        s.port.current.map (fun c => (c.requester, c.discard, c.request.kind)) = some (.engine, .clear, .mapRead 7) ∧
        s.map.fill = some { page := 7, void := v } ∧ s.inbound.list = [] ++ e :: [] ∧ e.state = .executing ∧
        e.source ≠ s.membership.own ∧ e.orphaned = b) ∧
    (let m := (mapped (station .online 4)).memory
     (readTransfers 2 0x450000#32 [failing] m).outcome ≠ .ok ∧ (readTransfers 2 0x450000#32 [] m).outcome = .ok ∧
      (mapEntryOf (readTransfers 2 0x450000#32 [] m).words).valid = true ∧
      rightsFailure (mapEntryOf (readTransfers 2 0x450000#32 [] m).words) 3 (.read 1) = none) ∧
    -- a copy that is not VALID, and one whose rights fail
    (mapEntryOf (readTransfers 2 0x450000#32 [] []).words).valid = false ∧
    rightsFailure { openPage 1#20 with readMask := 0#16 } 3 (.read 1) = some .notPermitted := by decide

theorem witness_DataCycleEndMakesTheReplyReady :
    -- an entry of another station, one of the own, and orphans
    (∀ b ∈ [true, false], ∀ own ∈ [(4 : Station), 3], ∀ k ∈ [CycleKind.dataRead 16, .maskedWrite []],
      let e := { listed 3 5 (.read 16) .executing with orphaned := b }
      let s := withCycle .engine k .clear none (withListed e (station .online own))
      s.pins.resetLow = false ∧
        s.port.current.map (fun c => (c.requester, c.discard, c.request.kind)) = some (.engine, .clear, k) ∧
        s.inbound.list = [] ++ e :: [] ∧ e.state = .executing ∧ e.source = 3 ∧ s.membership.own = own ∧
        e.orphaned = b) := by decide

theorem witness_CyclesRunTheirTransfersInOrder :
    failing.reply ≠ .ok ∧ Transfer.plain.reply = .ok ∧ memoryWf [(0, 1#8), (0xFFFFFFFF, 2#8)] = true := by decide

theorem witness_CyclesRunTheirTransfersInOrder_kinds :
    (∀ k ∈ [CycleKind.dataRead 16, .mapRead 4095, .maskedWrite [], .mapWrite 4095 MapEntry.zero],
      (withCycle .engine k .clear none (station .online 4)).port.current.map (fun c => c.request.kind) = some k) ∧
    (∀ o ∈ [none, some 41#32],
      (withCycle .engine (.locked (.swap 1#32)) .clear o (station .online 4)).port.current.map
        (fun c => (c.request.kind, c.old)) = some (.locked (.swap 1#32), o)) :=
  ⟨fun _ _ => rfl, fun _ _ => rfl⟩

/-- A COMPARE-SWAP that executes, in its read phase or its write phase. -/
def swapping (old : Option Word) : State :=
  withCycle .engine (.locked (.compareSwap 41#32 42#32)) .clear old
    (withListed (listed 3 5 (.atomic (.compareSwap 41#32 42#32)) .executing) (station .online 4))

theorem witness_LockedCyclePhasesEnd :
    ((swapping none).pins.resetLow = false ∧
      (swapping none).port.current =
        some
          { requester := .engine, request := { kind := .locked (.compareSwap 41#32 42#32), addr := 0x450000#32 }
            discard := .clear, old := none } ∧
      (swapping none).inbound.list = [] ++ listed 3 5 (.atomic (.compareSwap 41#32 42#32)) .executing :: [] ∧
      (3 : Station) ≠ (swapping none).membership.own ∧
      (listed 3 5 (.atomic (.compareSwap 41#32 42#32)) .executing).orphaned = false) ∧
    (swapping (some 41#32)).port.current =
      some
        { requester := .engine, request := { kind := .locked (.compareSwap 41#32 42#32), addr := 0x450000#32 }
          discard := .clear, old := some 41#32 } ∧
    (Transfer.plain.reply = .ok ∧ failing.reply ≠ .ok ∧ failing.landed = true) ∧
    -- another master writes 41 before the read phase, and the comparison then succeeds
    (AtomicOp.compareSwap 41#32 42#32).newValue (readWord (writeOthers [(0x450003#32, 41#8)] []) 0x450000#32) ≠ none ∧
    (AtomicOp.compareSwap 41#32 42#32).newValue (readWord [] 0x450000#32) = none ∧
    (AtomicOp.compareSwap 41#32 42#32).newValue 41#32 = some 42#32 := by decide

theorem witness_MarkedCyclesHandNothingOver :
    (∀ d ∈ [Discard.bySoftReset, .byConflict],
      (withCycle .engine (.mapRead 7) d none (station .online 4)).pins.resetLow = false ∧
      (withCycle .engine (.mapRead 7) d none (station .online 4)).port.current.map
        (fun c => (c.discard, c.request.kind.isData)) = some (d, false)) ∧
    (∀ k ∈ [CycleKind.dataRead 1, .locked (.swap 9#32)],
      let e := { listed 3 5 (.read 1) .executing with orphaned := true }
      let s := withCycle .engine k .byConflict (some 41#32) (withListed e (station .conflict 4))
      s.port.current.map (fun c => (c.discard, c.request.kind, c.request.kind.isData, c.old)) =
          some (.byConflict, k, true, some 41#32) ∧
        s.inbound.list = [] ++ e :: [] ∧ e.state = .executing) ∧
    ((withCycle .engine (.locked (.swap 9#32)) .bySoftReset none (station .offline 4)).port.current.map fun c => c.old) =
      some none ∧
    (AtomicOp.swap 9#32).newValue 41#32 = some 9#32 := by decide

/-- An error, and a comparison that fails, in a marked cycle. -/
theorem witness_MarkedCyclesHandNothingOver_fails :
    failing.reply ≠ .ok ∧ (AtomicOp.compareSwap 41#32 42#32).newValue (readWord [] 0x450000#32) = none ∧
    (∀ d ∈ [Discard.bySoftReset, .byConflict],
      (withCycle .engine (.locked (.compareSwap 41#32 42#32)) d none (station .conflict 4)).port.current.map
        (fun c => (c.request.kind, c.discard, c.old)) = some (.locked (.compareSwap 41#32 42#32), d, none)) := by decide

/-- A station whose list has one NEW entry, its record OPEN. -/
def serving : State := withListed (listed 3 5 (.read 1) .fresh) (station .online 4)

theorem witness_EveryStepKeepsTheBounds : serving.bounded ∧ (∃ t, step serving = .next t) := by
  refine ⟨⟨by unfold EventQueue.sound; decide, by decide, by decide, by unfold Aperture.sound PostedEntry.sound; decide, ?_,
    by decide⟩, ⟨_, rfl⟩⟩
  exact ⟨by decide, by decide, fun f h => by simp [serving, withListed, State.withList, station, State.reset, WindowMap.initial] at h⟩

theorem witness_EveryStepKeepsTheRosterSound : serving.rosterSound ∧ (∃ t, step serving = .next t) := by
  refine ⟨?_, ⟨_, rfl⟩⟩
  unfold State.rosterSound RosterRecord.sound
  decide

theorem witness_EveryStepKeepsFilterAndListInAgreement : serving.inboundSound ∧ (∃ t, step serving = .next t) := by
  refine ⟨⟨by unfold Inbound.sound; decide, ?_, ?_⟩, ⟨_, rfl⟩⟩
  · have hc : serving.port.current = none := rfl
    have he : serving.port.engine = none := rfl
    have hm : serving.port.maintenance = none := rfl
    simp [State.engineSound, hc, he, hm]
  · have hp : serving.link.phase = .idle := rfl
    have ht : serving.takesPart = true := rfl
    have hl : serving.membership.leavePending = false := rfl
    simp [State.leaveSound, hp, ht, hl]

theorem witness_EveryStepKeepsTheQueuedOrderSound : serving.queueSound ∧ (∃ t, step serving = .next t) := by
  have hp : serving.link.phase = .idle := rfl
  have ht : serving.takesPart = true := rfl
  have hl : serving.membership.leavePending = false := rfl
  have hq : serving.outbound.queued = [] := rfl
  have hn : ∀ t : Tag, serving.outbound.table[t] = none := by decide
  refine ⟨?_, ⟨_, rfl⟩⟩
  simp [State.queueSound, hp, ht, hl, hq, hn]

end Sys2Proof.Tests
end

/-! SUPPORT. The rules of the bounds (00_scope.md section 8): what may be put into each part of a state so that the state
stays bounded, and for each operation of the model that it keeps a bounded state bounded. The statement about every step is
assembled from them, command by command. -/

namespace Sys2Proof.Machine

/-! ## Posted Write Buffer -/

/-- Entries may leave the buffer (R127). -/
theorem Aperture.sound.sublist {u : Aperture} (h : u.sound) {es : List PostedEntry} (hs : es.Sublist u.posted) :
    ({ u with posted := es } : Aperture).sound := by
  obtain ⟨hl, he, hn, hf⟩ := h
  exact ⟨hs.length_le.trans hl, fun e m => he e (hs.subset m), (hs.map _).nodup hn, hf⟩

/-- The failure count may take any value up to 255 (R131). -/
theorem Aperture.sound.withFailures {u : Aperture} (h : u.sound) {n : Nat} (hn : n ≤ 255) :
    ({ u with failures := n } : Aperture).sound :=
  ⟨h.1, h.2.1, h.2.2.1, hn⟩

/-- Entries may change in what is neither their name nor their words (R125). -/
theorem Aperture.sound.mapEntries {u : Aperture} (h : u.sound) {f : PostedEntry → PostedEntry}
    (hp : ∀ e, (f e).place = e.place) (hs : ∀ e, e.sound → (f e).sound) :
    ({ u with posted := u.posted.map f } : Aperture).sound := by
  obtain ⟨hl, he, hn, hf⟩ := h
  refine ⟨by simpa using hl, ?_, ?_, hf⟩
  · intro e m
    obtain ⟨g, hg, rfl⟩ := List.mem_map.mp m
    exact hs g (he g hg)
  · simpa [Function.comp_def, hp] using hn

/-- A sound entry of a new name may join a buffer that is not full (R122, R123). -/
theorem Aperture.sound.append {u : Aperture} (h : u.sound) {e : PostedEntry} (hl : u.posted.length < 8) (he : e.sound)
    (hn : ∀ f ∈ u.posted, f.place ≠ e.place) : ({ u with posted := u.posted ++ [e] } : Aperture).sound := by
  obtain ⟨_, hs, hd, hf⟩ := h
  refine ⟨by simp; omega, ?_, ?_, hf⟩
  · intro f m
    rcases List.mem_append.mp m with m | m
    · exact hs f m
    · rw [List.mem_singleton.mp m]
      exact he
  · rw [List.map_append, List.nodup_append]
    refine ⟨hd, by simp, ?_⟩
    simpa using hn

/-- The newest entry may be replaced by a sound one of its name (R123). -/
theorem Aperture.sound.replaceLast {u : Aperture} (h : u.sound) {es : List PostedEntry} {e f : PostedEntry}
    (hu : u.posted = es ++ [e]) (hp : f.place = e.place) (hf : f.sound) :
    ({ u with posted := es ++ [f] } : Aperture).sound := by
  obtain ⟨hl, hs, hd, hc⟩ := h
  rw [hu] at hl hs hd
  refine ⟨by simpa using hl, ?_, by simpa [hp] using hd, hc⟩
  intro g m
  rcases List.mem_append.mp m with m | m
  · exact hs g (by simp [m])
  · rw [List.mem_singleton.mp m]
    exact hf

theorem overlayLast_length (ws : List MaskedWord) (w : MaskedWord) : (overlayLast ws w).length = ws.length := by
  induction ws with
  | nil => rfl
  | cons x xs ih =>
    cases xs with
    | nil => rfl
    | cons y ys => simp [overlayLast, ih]

/-- A merge keeps the name, and keeps the words within 8 and within the page, since the store names a word of the page
(R122, R123). -/
theorem PostedEntry.merge_sound {e f : PostedEntry} {st : HeldStore} (he : e.sound) (h : e.merge st = some f) :
    f.place = e.place ∧ f.sound := by
  obtain ⟨h1, h8, hp⟩ := he
  have ho := st.offset.isLt
  unfold PostedEntry.merge Config.postedWords at h
  split_ifs at h with hm hover happend
  · cases h
    exact ⟨rfl, by simpa [PostedEntry.sound, overlayLast_length] using ⟨h1, h8, hp⟩⟩
  · cases h
    refine ⟨rfl, ?_, ?_, ?_⟩ <;> simp only [List.length_append, List.length_singleton] <;> omega

theorem mergeStore_sound {u : Aperture} (h : u.sound) {st : HeldStore} {es : List PostedEntry}
    (hm : mergeStore u.posted st = some es) : ({ u with posted := es } : Aperture).sound := by
  unfold mergeStore at hm
  split at hm
  · rename_i e hlast
    obtain ⟨f, hf, rfl⟩ := Option.map_eq_some_iff.mp hm
    have hu : u.posted = u.posted.dropLast ++ [e] := (List.dropLast_append_getLast? e hlast).symm
    obtain ⟨hp, hs⟩ := PostedEntry.merge_sound (h.2.1 e (hu ▸ by simp)) hf
    exact h.replaceLast hu hp hs
  · cases hm

/-! ## Map Cache -/

/-- Copies may leave the cache, and the fill may end or change its mark (R11, R12, R16). -/
theorem WindowMap.sound.shrink {u v : WindowMap} (h : u.sound) (hc : v.cache.Sublist u.cache)
    (hf : ∀ f, v.fill = some f → ∃ g, u.fill = some g ∧ g.page = f.page) : v.sound := by
  obtain ⟨hl, hn, hfill⟩ := h
  refine ⟨hc.length_le.trans hl, (hc.map _).nodup hn, fun f e m => ?_⟩
  obtain ⟨g, hg, hp⟩ := hf f e
  exact hfill g hg (hp ▸ (hc.map _).subset m)

/-- A hit becomes the most recent copy (R6, R7). -/
theorem WindowMap.sound.refresh {u : WindowMap} (h : u.sound) {c : CacheEntry} (hc : c ∈ u.cache) :
    ({ u with cache := (u.cache.filter fun d => decide (d.page ≠ c.page)) ++ [c] } : WindowMap).sound := by
  obtain ⟨hl, hn, hfill⟩ := h
  have hlt : (u.cache.filter fun d => decide (d.page ≠ c.page)).length < u.cache.length :=
    List.length_filter_lt_length_iff_exists.mpr ⟨c, hc, by simp⟩
  refine ⟨by simp only [List.length_append, List.length_singleton]; omega, ?_, fun f e m => hfill f e ?_⟩
  · rw [List.map_append, List.nodup_append]
    refine ⟨(List.filter_sublist.map _).nodup hn, by simp, fun p hp q hq e => ?_⟩
    obtain ⟨d, hd, rfl⟩ := List.mem_map.mp hp
    rw [List.map_singleton, List.mem_singleton] at hq
    simpa [e, hq] using (List.mem_filter.mp hd).2
  · rw [List.map_append, List.mem_append] at m
    rcases m with m | m
    · exact (List.filter_sublist.map _).subset m
    · rw [List.map_singleton, List.mem_singleton] at m
      exact m ▸ List.mem_map_of_mem hc

/-- A miss starts a fill of a page that no copy has (R8). -/
theorem WindowMap.sound.startFill {u : WindowMap} (h : u.sound) {f : Fill} (hf : ∀ c ∈ u.cache, c.page ≠ f.page) :
    ({ u with fill := some f } : WindowMap).sound := by
  refine ⟨h.1, h.2.1, fun g e m => ?_⟩
  obtain ⟨c, hc, hp⟩ := List.mem_map.mp m
  exact hf c hc (hp.trans (congrArg Fill.page (Option.some.inj e)).symm)

/-- The copy of an ended fill is installed, the least recent of 24 going first (R5, R9). -/
theorem WindowMap.sound.install {u : WindowMap} (h : u.sound) {f : Fill} (hf : u.fill = some f) (m : MapEntry) :
    ({ u with fill := none, cache := installCopy u.cache { page := f.page, entry := m } } : WindowMap).sound := by
  obtain ⟨hl, hn, hfill⟩ := h
  have hs : (if Config.mapCacheCapacity ≤ u.cache.length then u.cache.tail else u.cache).Sublist u.cache := by
    split
    · exact List.tail_sublist _
    · exact List.Sublist.refl _
  refine ⟨?_, ?_, by simp⟩
  · simp only [installCopy, List.length_append, List.length_singleton]
    unfold Config.mapCacheCapacity
    split
    · rw [List.length_tail]
      omega
    · omega
  · simp only [installCopy, List.map_append, List.map_singleton, List.nodup_append]
    refine ⟨(hs.map _).nodup hn, by simp, fun p hp q hq e => ?_⟩
    rw [List.mem_singleton.mp hq] at e
    exact hfill f hf (e ▸ (hs.map _).subset hp)

/-! ## Inbound Request List -/

theorem markOldest_length (l : List ListEntry) : (markOldest l).length = l.length := by
  induction l with
  | nil => rfl
  | cons e es ih =>
    unfold markOldest
    split <;> simp [ih]

/-! ## One part of a bounded state set -/

namespace State.bounded

variable {s : State}

theorem withEvents (h : s.bounded) {q : EventQueue} (hq : q.sound) : ({ s with events := q } : State).bounded :=
  ⟨hq, h.2⟩

theorem withSignals (h : s.bounded) {l : List SignalRecord} (hl : l.length ≤ 8) :
    ({ s with signals := l } : State).bounded :=
  ⟨h.1, hl, h.2.2⟩

theorem withInbound (h : s.bounded) {u : Inbound} (hu : u.list.length ≤ 8) : ({ s with inbound := u } : State).bounded :=
  ⟨h.1, h.2.1, hu, h.2.2.2⟩

theorem withAperture (h : s.bounded) {u : Aperture} (hu : u.sound) : ({ s with aperture := u } : State).bounded :=
  ⟨h.1, h.2.1, h.2.2.1, hu, h.2.2.2.2⟩

theorem withMap (h : s.bounded) {u : WindowMap} (hu : u.sound) : ({ s with map := u } : State).bounded :=
  ⟨h.1, h.2.1, h.2.2.1, h.2.2.2.1, hu, h.2.2.2.2.2⟩

theorem withMemory (h : s.bounded) {m : List Host.Cell} (hm : memoryWf m = true) :
    ({ s with memory := m } : State).bounded :=
  ⟨h.1, h.2.1, h.2.2.1, h.2.2.2.1, h.2.2.2.2.1, hm⟩

theorem withMaint (h : s.bounded) (m : Maintenance) : ({ s with map := { s.map with maint := m } } : State).bounded :=
  h

/-- A choice between two bounded states. -/
theorem either {c : Prop} [Decidable c] {t : State} (h : s.bounded) (ht : t.bounded) : (if c then s else t).bounded := by
  split <;> assumption

theorem signals_length (h : s.bounded) : s.signals.length ≤ 8 := h.2.1
theorem list_length (h : s.bounded) : s.inbound.list.length ≤ 8 := h.2.2.1
theorem aperture_sound (h : s.bounded) : s.aperture.sound := h.2.2.2.1
theorem map_sound (h : s.bounded) : s.map.sound := h.2.2.2.2.1
theorem memory_wf (h : s.bounded) : memoryWf s.memory = true := h.2.2.2.2.2

/-! ## Operations that all blocks share -/

theorem addEvent (h : s.bounded) (r : EventRecord) : (s.addEvent r).bounded :=
  h.withEvents (EventQueue.append_sound r h.1)

theorem setLink (h : s.bounded) (l : LinkState) : (s.setLink l).bounded := by
  obtain ⟨b, e⟩ := s.setLink_touches l
  rw [e]
  exact h

theorem hear (h : s.bounded) (i : Station) : (s.hear i).bounded := by
  unfold State.hear
  split
  · exact h
  · simp only
    split
    · exact addEvent (s := s.setRoster i _) h _
    · exact h

theorem hearLeave (h : s.bounded) (i : Station) : (s.hearLeave i).bounded := by
  unfold State.hearLeave
  split
  · exact h
  · simp only
    split
    · exact h
    · exact addEvent (s := s.setRoster i _) h _

theorem countNoAck (h : s.bounded) (i : Station) : (s.countNoAck i).bounded := by
  unfold State.countNoAck
  simp only
  split
  · split
    · exact h
    · exact addEvent (s := s.setRoster i _) h _
  · exact h

theorem reportNoAck (h : s.bounded) (e : TransEntry) : (s.reportNoAck e).bounded := by
  unfold State.reportNoAck
  split
  · exact h
  · exact h.countNoAck _

theorem closeFilter (h : s.bounded) (i : Station) (t : Tag) (b : Bool) : (s.closeFilter i t b).bounded := by
  obtain ⟨f, e⟩ := s.closeFilter_touches i t b
  rw [e]
  exact h

theorem purge (h : s.bounded) (i : Station) : (s.purge i).bounded :=
  h.withInbound (by simpa using (List.length_filter_le _ _).trans h.list_length)

theorem portRequest (h : s.bounded) (r : Requester) (q : Request) : (s.portRequest r q).bounded := by
  obtain ⟨p, e⟩ := s.portRequest_touches r q
  rw [e]
  exact h

theorem portNext (h : s.bounded) : s.portNext.bounded := by
  obtain ⟨p, e⟩ := s.portNext_touches
  rw [e]
  exact h

theorem checkDrain (h : s.bounded) : s.checkDrain.bounded := by
  obtain ⟨b, e⟩ := s.checkDrain_touches
  rw [e]
  exact h

/-! ## Ends of transactions and attempts -/

theorem dropPosted (h : s.bounded) (p : Place) : (s.dropPosted p).bounded :=
  h.withAperture (h.aperture_sound.sublist List.filter_sublist)

theorem failPosted (h : s.bounded) (e : PostedEntry) (st : Status) : (s.failPosted e st).bounded :=
  (h.withAperture (h.aperture_sound.withFailures (Nat.min_le_right _ _))).addEvent _

theorem endPosted (h : s.bounded) (p : Place) (st : Status) : (s.endPosted p st).bounded := by
  unfold State.endPosted
  split
  · exact h
  · split
    · exact h.dropPosted p
    · exact (h.dropPosted p).failPosted _ _

theorem endLoad (h : s.bounded) (st : Status) (data : List Word) : (s.endLoad st data).bounded := by
  unfold State.endLoad
  split
  · split
    · exact h
    · exact addEvent (s := s.releaseHost _) h _
  · exact h

theorem deliver (h : s.bounded) (o : Origin) (st : Status) (data : List Word) : (s.deliver o st data).bounded := by
  cases o with
  | apertureRead => exact h.endLoad st data
  | posted p => exact h.endPosted p st
  | slot k => exact h

theorem endEntry (h : s.bounded) (t : Tag) (st : Status) (data : List Word) : (s.endEntry t st data).bounded := by
  unfold State.endEntry
  split
  · exact h
  · exact deliver (s := s.freeEntry t) h _ _ _

theorem afterAttempt (h : s.bounded) (t : Tag) (code : AckCode) : (s.afterAttempt t code).bounded := by
  unfold State.afterAttempt
  split
  · exact h
  · simp only
    split
    · split
      · exact h
      · exact h.endEntry _ _ _
    · exact h.endEntry _ _ _
    · exact h.endEntry _ _ _
    · split
      · exact h
      · exact h.endEntry _ _ _
    · split
      · exact h
      · exact (h.endEntry _ _ _).reportNoAck _

theorem matchResponse (h : s.bounded) (i : Station) (t : Tag) (b : Bool) (st : WireStatus) (data : List Word) :
    (Machine.matchResponse i t b st data s).2.bounded := by
  unfold Machine.matchResponse
  split
  · split
    · exact h.endEntry _ _ _
    · exact h.addEvent _
  · exact h.addEvent _

/-! ## The accept decision and loopback -/

/-- Acceptance where the room check has found room (R23, R24, R49). -/
theorem enlist (h : s.bounded) {o : Offer} (hf : s.full o = false) (i : Station) (t : Tag) (b : Bool) :
    (s.enlist i t b o).bounded := by
  cases o with
  | request p w body =>
    refine h.withInbound ?_
    have hf := of_decide_eq_false hf
    unfold Config.inboundCapacity at hf
    simp only [List.length_append, List.length_singleton]
    omega
  | signal v =>
    have hl : (s.signals ++ [({ source := i, value := v } : SignalRecord)]).length ≤ 8 := by
      have hf := of_decide_eq_false hf
      unfold Config.signalCapacity at hf
      simp only [List.length_append, List.length_singleton]
      omega
    exact (h.withSignals hl).withInbound h.list_length

theorem acceptDecision (h : s.bounded) (i : Station) (t : Tag) (b : Bool) (o : Offer) :
    (Machine.acceptDecision i t b o s).2.bounded := by
  unfold Machine.acceptDecision
  simp only
  split
  · exact h
  split
  · cases o with
    | request p w body => exact h.addEvent _
    | signal v => exact h
  split
  · exact h
  split
  · exact h
  · rename_i hroom
    simp only [not_or, Bool.not_eq_true] at hroom
    exact h.enlist hroom.1 i t b

theorem loopbackAnswer (h : s.bounded) (t : Tag) (e : TransEntry) : (s.loopbackAnswer t e).2.bounded := by
  unfold State.loopbackAnswer
  split
  · split
    · exact h.acceptDecision _ _ _ _
    · exact h
  · exact h

theorem presentLoopback (h : s.bounded) (t : Tag) : (s.presentLoopback t).bounded := by
  unfold State.presentLoopback
  split
  · exact h
  · exact (loopbackAnswer (s := s.setEntry t _) h _ _).afterAttempt _ _

/-! ## Presentations and stores -/

theorem take (h : s.bounded) (o : Origin) : (s.take o).bounded := by
  cases o with
  | apertureRead =>
    simp only [State.take]
    split <;> exact h
  | posted p =>
    refine h.withAperture (h.aperture_sound.mapEntries (fun e => ?_) fun e he => ?_)
    · split <;> rfl
    · split <;> exact he
  | slot k => exact h

theorem allocate (h : s.bounded) (o : Origin) (target : Station) (body : TransBody) :
    (s.allocate o target body).bounded := by
  unfold State.allocate
  split
  · exact h
  · have ht (ob : Outbound) : ({ s.take o with outbound := ob } : State).bounded := h.take o
    simp only
    split
    · exact (ht _).presentLoopback _
    · exact ht _

theorem present (h : s.bounded) (o : Origin) (target : Station) (body : TransBody) :
    (s.present o target body).bounded := by
  unfold State.present
  split
  · exact h.deliver _ _ _
  · exact h.allocate _ _ _

theorem presentSlot (h : s.bounded) (k : SlotNo) : (s.presentSlot k).bounded := by
  unfold State.presentSlot
  split
  · exact h.present _ _ _
  · exact h

theorem presentLoad (h : s.bounded) : s.presentLoad.bounded := by
  unfold State.presentLoad
  split
  · split
    · exact h.present _ _ _
    · exact h
  · exact h

theorem appendPosted (h : s.bounded) (hl : s.aperture.posted.length < 8) (st : HeldStore) :
    (s.appendPosted st).bounded := by
  have ho := st.offset.isLt
  have hb := h.withAperture (h.aperture_sound.append
    (e := { place := s.freePlace, target := st.target, page := st.page, first := st.offset, words := [st.word]
            taken := false })
    hl ⟨by simp, by simp, by simp only [List.length_singleton]; omega⟩ (State.freePlace_spec hl))
  unfold State.appendPosted
  simp only
  split
  · exact hb.present _ _ _
  · exact hb

theorem placeStore (h : s.bounded) (st : HeldStore) : (s.placeStore st).bounded := by
  unfold State.placeStore
  split
  · exact h.withAperture (mergeStore_sound h.aperture_sound ‹_›)
  · split
    · exact appendPosted (s := s.releaseHost .done) h ‹_› st
    · exact h

theorem endHeldStore (h : s.bounded) : s.endHeldStore.bounded := by
  unfold State.endHeldStore
  split
  · split
    · exact addEvent (s := s.releaseHost .busError) h _
    · split
      · exact h.placeStore _
      · exact h
  · exact h

theorem completeFence (h : s.bounded) : s.completeFence.bounded :=
  h.withAperture (h.aperture_sound.withFailures (Nat.zero_le _))

theorem followOnce {t : State} (h : s.bounded) (ht : s.followOnce = some t) : t.bounded := by
  unfold State.followOnce at ht
  split at ht
  · cases ht
    exact h.present _ _ _
  split at ht
  · cases ht
    exact h.endHeldStore
  split at ht
  · cases ht
    exact h.presentLoad
  split at ht
  · cases ht
    exact h.presentSlot _
  split at ht
  · cases ht
    exact h.completeFence
  · cases ht

theorem followOns (n : Nat) (h : s.bounded) : (s.followOns n).bounded := by
  induction n generalizing s with
  | zero => exact h
  | succ n ih =>
    unfold State.followOns
    split
    · exact ih (h.followOnce ‹_›)
    · exact h

theorem followThrough (h : s.bounded) : s.followThrough.bounded := (h.followOns _).checkDrain

theorem presentPlace (h : s.bounded) (p : Place) : (s.presentPlace p).bounded := by
  unfold State.presentPlace
  split
  · split
    · simp only
      split
      · exact followThrough (h.present _ _ _)
      · exact h.present _ _ _
    · exact h
  · exact h

/-! ## The Inbound Engine and the Memory Port -/

theorem updateExecuting (h : s.bounded) (f : ListEntry → ListEntry) : (s.updateExecuting f).bounded :=
  h.withInbound (by simpa using h.list_length)

theorem removeExecuting (h : s.bounded) : s.removeExecuting.bounded :=
  h.withInbound ((List.length_filter_le _ _).trans h.list_length)

theorem loopbackReply (h : s.bounded) (e : ListEntry) (st : WireStatus) (data : List Word) :
    (s.loopbackReply e st data).bounded :=
  ((h.matchResponse _ _ _ _ _).removeExecuting.closeFilter _ _ _).followThrough

theorem endExecution (h : s.bounded) (st : WireStatus) (data : List Word) : (s.endExecution st data).bounded := by
  unfold State.endExecution
  split
  · exact h
  · rename_i e _
    have hr : (if st = .ok then s else s.addEvent (.rejected e st)).bounded := by
      split
      · exact h
      · exact h.addEvent _
    simp only
    generalize (if st = .ok then s else s.addEvent (.rejected e st)) = u at hr ⊢
    split
    · exact hr.removeExecuting.checkDrain
    split
    · exact hr.loopbackReply _ _ _
    · exact (hr.updateExecuting _).withInbound (hr.updateExecuting _).list_length

theorem translated (h : s.bounded) (m : MapEntry) : (s.translated m).bounded := by
  unfold State.translated
  split
  · exact h
  split
  · exact h.endExecution _ _
  · simp only
    split
    · exact (h.updateExecuting _).endExecution _ _
    · exact (h.updateExecuting _).portRequest _ _

theorem lookup (h : s.bounded) (p : Page) : (s.lookup p).bounded := by
  unfold State.lookup
  split
  · rename_i c hc
    have hp : c.page = p := by simpa using List.find?_some hc
    subst hp
    exact (h.withMap (h.map_sound.refresh (List.mem_of_find?_eq_some hc))).translated _
  · rename_i hc
    refine (h.withMap (h.map_sound.startFill fun d hd => ?_)).portRequest _ _
    simpa using List.find?_eq_none.mp hc d hd

theorem startExecution (h : s.bounded) : s.startExecution.bounded := by
  unfold State.startExecution
  split
  · exact h
  · have hm := h.withInbound (u := { s.inbound with list := markOldest s.inbound.list })
      ((markOldest_length _).trans_le h.list_length)
    simp only
    split
    · exact hm
    split
    · exact hm.endExecution _ _
    · exact hm.lookup _

theorem fillEnded (h : s.bounded) (r : ReadResult) : (s.fillEnded r).bounded := by
  unfold State.fillEnded
  split
  · exact h
  · rename_i f hf
    split
    · have hr : ({ s.map with fill := some { f with void := false } } : WindowMap).sound :=
        h.map_sound.shrink (List.Sublist.refl _) fun g e => ⟨f, hf, by rw [← Option.some.inj e]⟩
      exact (h.withMap hr).portRequest _ _
    split
    · exact (h.withMap (h.map_sound.install hf _)).translated _
    · have hn : ({ s.map with fill := none } : WindowMap).sound := h.map_sound.shrink (List.Sublist.refl _) nofun
      exact (h.withMap hn).endExecution _ _

theorem dataEnded (h : s.bounded) (r : ReadResult) : (s.dataEnded r).bounded := by
  unfold State.dataEnded
  split <;> exact h.endExecution _ _

theorem discardEnded (h : s.bounded) (c : Cycle) : (s.discardEnded c).bounded := by
  unfold State.discardEnded
  split
  · exact h.removeExecuting.checkDrain
  · exact h

theorem updateEnded (h : s.bounded) (c : Cycle) (r : ReadResult) : (s.updateEnded c r).bounded := by
  unfold State.updateEnded
  split
  · split
    · refine h.withMap (h.map_sound.shrink List.filter_sublist fun f e => ?_)
      obtain ⟨g, hg, rfl⟩ := Option.map_eq_some_iff.mp e
      exact ⟨g, hg, by split <;> rfl⟩
    · exact (h.withMaint _).addEvent _
  · exact h

theorem maintReadEnded (h : s.bounded) (c : Cycle) (r : ReadResult) : (s.maintReadEnded c r).bounded := by
  unfold State.maintReadEnded
  split
  · exact h
  · exact (h.withMaint _).addEvent _

/-- The outcome of a cycle is handed over with memory in its form (R154, R156, R157). -/
theorem handOver (h : s.bounded) (c : Cycle) {r : ReadResult} (hr : memoryWf r.memory = true)
    {f : ReadResult → State → State} (hf : ∀ {u : State}, u.bounded → (f r u).bounded) : (s.handOver c r f).bounded := by
  unfold State.handOver
  simp only
  split
  · exact (hf (h.withMemory hr)).portNext
  · exact ((h.withMemory hr).discardEnded c).portNext

theorem endCycle (h : s.bounded) (meant : Cycle → Bool) (ts : List Transfer) {f : Cycle → ReadResult → State → State}
    (hf : ∀ {u : State} c r, u.bounded → (f c r u).bounded) : (s.endCycle meant ts f).bounded := by
  unfold State.endCycle
  split
  · split
    · exact h.handOver _ (Cycle.run_memoryWf h.memory_wf) fun hu => hf _ _ hu
    · exact h
  · exact h

theorem endReadPhase (h : s.bounded) (c : Cycle) (op : AtomicOp) (t : Transfer) : (s.endReadPhase c op t).bounded := by
  have hm : memoryWf (readTransfers 1 c.request.addr [t] s.memory).memory = true := readTransfers_memoryWf h.memory_wf
  unfold State.endReadPhase
  simp only
  split
  · exact h.withMemory hm
  · exact h.handOver c hm fun hu => hu.dataEnded _

/-! ## CONFLICT, OFFLINE and the resets -/

theorem failAllPosted (h : s.bounded) : s.failAllPosted.bounded := by
  have hfold (es : List PostedEntry) : ∀ {u : State}, u.bounded →
      (es.foldl (fun u e => u.failPosted e .linkDown) u).bounded := by
    induction es with
    | nil => exact id
    | cons e es ih => exact fun hu => ih (hu.failPosted e .linkDown)
  exact hfold _ (h.withAperture (h.aperture_sound.sublist (List.nil_sublist _)))

theorem endHeldAtConflict (h : s.bounded) : s.endHeldAtConflict.bounded := by
  unfold State.endHeldAtConflict
  split
  · exact h.endLoad _ _
  · exact addEvent (s := s.releaseHost .busError) h _
  · exact h.completeFence
  · exact h



theorem enterConflict (h : s.bounded) : s.enterConflict.bounded := by
  unfold State.enterConflict
  split
  · exact h
  · exact h
  · have hc := (h.setLink .conflict).addEvent (.bare .stationConflict)
    generalize (s.setLink .conflict).addEvent (.bare .stationConflict) = u at hc
    have hi : (u.inbound.atConflict u.port.dataOnBus).list.length ≤ 8 := by
      unfold Inbound.atConflict
      split
      · exact (List.length_map _).trans_le ((List.length_filter_le _ _).trans hc.list_length)
      · exact Nat.zero_le 8
    have hm : ({ u.map with fill := none } : WindowMap).sound := hc.map_sound.shrink (List.Sublist.refl _) nofun
    exact endHeldAtConflict (failAllPosted ⟨hc.1, hc.signals_length, hi, hc.aperture_sound, hm, hc.memory_wf⟩)

theorem heard (h : s.bounded) (i : Station) {f : State → State} (hf : ∀ {u : State}, u.bounded → (f u).bounded) :
    (s.heard i f).bounded := by
  have hl : ({ s with link := s.link.afterCrc } : State).bounded := h
  unfold State.heard
  simp only
  split
  · split
    · exact hl.enterConflict
    · exact hf hl
  · exact h

theorem offlineByLeave (h : s.bounded) : s.offlineByLeave.bounded :=
  (h.setLink .offline).withInbound (h.setLink .offline).list_length

theorem leaveLink (h : s.bounded) : s.leaveLink.bounded := by
  unfold State.leaveLink
  split
  · exact h
  · exact h
  · exact h.offlineByLeave
  · exact h.offlineByLeave
  · exact h.offlineByLeave
  · exact (h.setLink _).checkDrain

theorem joinLink (h : s.bounded) (stn : Station) (rate : BitVec 2) : (s.joinLink stn rate).bounded := h.setLink .listening

/-- Whatever memory in its form a state has beside empty collections, it is bounded: the soft reset and power-on (R172,
R178). -/
theorem of_empty (hm : memoryWf s.memory = true) (he : s.events = { records := [], overflow := false })
    (hs : s.signals = []) (hi : s.inbound.list = []) (hp : s.aperture.posted = []) (hf : s.aperture.failures = 0)
    (hc : s.map.cache = []) (hn : s.map.fill = none) : s.bounded := by
  simp [State.bounded, EventQueue.sound, Aperture.sound, WindowMap.sound, he, hs, hi, hp, hf, hc, hn, hm]

theorem softReset (h : s.bounded) (b : Bool) : (s.softReset b).bounded :=
  of_empty h.memory_wf rfl rfl rfl rfl rfl rfl rfl

theorem powerOn (h : s.bounded) : s.powerOn.bounded := of_empty h.memory_wf rfl rfl rfl rfl rfl rfl rfl

theorem notReset (h : s.bounded) : s.notReset.bounded := by
  unfold State.notReset
  exact portNext h

theorem assertReset (h : s.bounded) (landed : List Bool) : (s.assertReset landed).bounded := by
  have hm : memoryWf (s.assertReset landed).memory = true := by
    unfold State.assertReset
    simp only
    split
    · exact Cycle.giveUp_memoryWf h.memory_wf
    · exact h.memory_wf
  exact ⟨h.1, h.signals_length, h.list_length, h.aperture_sound, h.map_sound, hm⟩

/-! ## Host accesses -/

theorem setLimits (h : s.bounded) (w : Word) : (s.setLimits w).bounded := by
  unfold State.setLimits
  split <;> exact h

theorem setMapBase (h : s.bounded) (w : Word) : (s.setMapBase w).bounded := by
  unfold State.setMapBase
  split
  · refine h.withMap (h.map_sound.shrink ?_ fun f e => ⟨f, e, rfl⟩)
    simp only
    split
    · exact List.Sublist.refl _
    · exact List.nil_sublist _
  · exact h

theorem joinOrLeave (h : s.bounded) (stn : Station) (rate : BitVec 2) (b : Bool) :
    (s.joinOrLeave stn rate b).bounded := by
  unfold State.joinOrLeave
  split
  · exact h.joinLink stn rate
  split
  · exact h.leaveLink
  · exact h

theorem clearLinkCause (h : s.bounded) (w : Word) : (s.clearLinkCause w).bounded := by
  unfold State.clearLinkCause
  split <;> exact h

theorem popSignal (h : s.bounded) : s.popSignal.bounded :=
  h.withSignals (by simpa using h.signals_length.trans (Nat.le_succ 8))

theorem popEvent (h : s.bounded) : s.popEvent.bounded := h.withEvents (EventQueue.pop_sound h.1)

theorem writeMaint (h : s.bounded) (r : MaintRegister) (w : Word) : (s.writeMaint r w).bounded := by
  unfold State.writeMaint
  split <;> exact h

theorem takeUpdate (h : s.bounded) : s.takeUpdate.bounded := by
  unfold State.takeUpdate
  split
  · exact (h.withMaint _).portRequest _ _
  · exact h.addEvent _

theorem takeRead (h : s.bounded) : s.takeRead.bounded := by
  unfold State.takeRead
  split
  · exact (h.withMaint _).portRequest _ _
  · exact h.addEvent _

theorem takeInvalidate (h : s.bounded) : s.takeInvalidate.bounded := by
  unfold State.takeInvalidate
  split
  · exact h.withMap ⟨Nat.zero_le _, List.nodup_nil, fun _ _ => List.not_mem_nil⟩
  · exact h.addEvent _

theorem maintCommand (h : s.bounded) (w : Word) : (s.maintCommand w).bounded := by
  unfold State.maintCommand
  simp only
  split
  · exact h.takeUpdate
  split
  · exact h.takeRead
  split
  · exact h.takeInvalidate
  · exact h.addEvent _

theorem writeSlot (h : s.bounded) (k : SlotNo) (r : SlotRegister) (w : Word) : (s.writeSlot k r w).bounded := by
  unfold State.writeSlot
  split <;> exact h

theorem goSlot (h : s.bounded) (k : SlotNo) : (s.goSlot k).bounded := by
  have hs (sl : Slot) : (s.setSlot k sl).bounded := h
  unfold State.goSlot
  split
  · exact h.addEvent _
  · simp only
    split
    · exact hs _
    split
    · exact (hs _).presentSlot k
    · exact hs _

theorem releaseSlot (h : s.bounded) (k : SlotNo) : (s.releaseSlot k).bounded := by
  unfold State.releaseSlot
  split
  · exact h.addEvent _
  split <;> exact h

theorem cancelEntry (h : s.bounded) (k : SlotNo) (t : Tag) : (s.cancelEntry k t).bounded := by
  unfold State.cancelEntry
  split
  · exact h
  split
  · exact (h.endEntry _ _ _).followThrough
  · exact (h.endEntry _ _ _).followThrough
  · exact h
  · exact h

theorem cancelSlot (h : s.bounded) (k : SlotNo) : (s.cancelSlot k).bounded := by
  unfold State.cancelSlot
  split
  · exact h
  · exact h
  · exact h
  · split
    · exact h.cancelEntry k _
    · exact h

theorem slotCommand (h : s.bounded) (k : SlotNo) (w : Word) : (s.slotCommand k w).bounded := by
  unfold State.slotCommand
  split
  · exact h.goSlot k
  split
  · exact h.releaseSlot k
  split
  · exact h.cancelSlot k
  · exact h.addEvent _

theorem storeAccess (h : s.bounded) (a : BitVec 18) (size : AccessSize) (data : Word) :
    (s.storeAccess a size data).bounded := by
  unfold State.storeAccess
  split
  · exact h
  split
  · exact addEvent (s := s.answerHost .busError) h _
  · exact h.placeStore _

theorem loadAccess (h : s.bounded) (a : BitVec 18) (size : AccessSize) : (s.loadAccess a size).bounded := by
  unfold State.loadAccess
  split
  · exact h
  split
  · exact addEvent (s := s.answerHost .busError) h _
  · exact presentLoad (s := s.holdHost _) h

theorem readFence (h : s.bounded) : s.readFence.bounded := by
  unfold State.readFence
  split
  · exact h.completeFence
  · exact h

theorem writeControl (h : s.bounded) (w : Word) : (s.writeControl w).bounded := by
  have he : (s.setEnable (w.getLsbD 8)).bounded := h
  unfold State.writeControl
  split
  · exact h.softReset true
  · simp only
    split
    · exact he.joinOrLeave _ _ _
    split
    · exact he.leaveLink
    · exact he

theorem writeSlotRegister (h : s.bounded) (k : SlotNo) (offset : Nat) (w : Word) :
    (s.writeSlotRegister k offset w).bounded := by
  unfold State.writeSlotRegister
  split
  · exact h.slotCommand k w
  split
  · exact h.writeSlot k _ w
  · exact h

theorem writeRegister (h : s.bounded) (offset : BitVec 12) (w : Word) : (s.writeRegister offset w).bounded := by
  unfold State.writeRegister
  exact either (h.writeControl w) <| either (h.setLimits w) <| either (h.setMapBase w) <|
    either (h.clearLinkCause w) <| either h <| either h.popSignal <| either h.popEvent <|
    either (h.writeMaint .page w) <| either (h.writeMaint .entry0 w) <| either (h.writeMaint .entry1 w) <|
    either (h.maintCommand w) <| either h <| either (h.writeSlotRegister _ _ w) h

/-! ## Frames sent -/

theorem updateReply (h : s.bounded) (i : Station) (t : Tag) (st : ListState) (f : ListEntry → ListEntry) :
    (s.updateReply i t st f).bounded :=
  h.withInbound ((List.length_map _).trans_le h.list_length)

theorem setTransState (h : s.bounded) (t : Tag) (st : TransState) : (s.setTransState t st).bounded := by
  unfold State.setTransState
  split <;> exact h

theorem goOnAir (h : s.bounded) (o : TxOwner) : (s.goOnAir o).bounded := by
  cases o with
  | reply i t => exact (h.updateReply _ _ _ _).withInbound (h.updateReply _ _ _ _).list_length
  | transaction t => exact h.setTransState t .onAir
  | announce => exact h
  | leave => exact h

theorem transmit (h : s.bounded) : s.transmit.bounded := by
  unfold State.transmit
  split
  · simp only
    split
    · exact goOnAir (s := { s with link := s.link.idleFor Config.interFrameGap }) h _
    · exact h
  · exact h

theorem handBack (h : s.bounded) (o : TxOwner) : (s.handBack o).bounded := by
  cases o with
  | reply i t => exact (h.updateReply _ _ _ _).withInbound (h.updateReply _ _ _ _).list_length
  | transaction t =>
    unfold State.handBack
    simp only
    split
    · exact h
    split
    · exact (h.endEntry _ _ _).followThrough
    · exact h
  | announce => exact h
  | leave => exact h

theorem removeReply (h : s.bounded) (i : Station) (t : Tag) : (s.removeReply i t).bounded := by
  unfold State.removeReply
  split
  · exact h
  · exact ((h.withInbound ((List.length_filter_le _ _).trans h.list_length)).closeFilter _ _ _).checkDrain

theorem failReply (h : s.bounded) (i : Station) (t : Tag) : (s.failReply i t).bounded := by
  unfold State.failReply
  split
  · exact h
  · simp only
    split
    · exact h.updateReply _ _ _ _
    · exact (h.removeReply i t).addEvent _

theorem abortFrame (h : s.bounded) (o : TxOwner) : (s.abortFrame o).bounded := by
  cases o with
  | reply i t => exact h.failReply i t
  | transaction t => exact (h.afterAttempt t _).followThrough
  | announce => exact h
  | leave => exact h

theorem hearAnswer (h : s.bounded) (i : Station) (code : AckCode) : (s.hearAnswer i code).bounded := by
  unfold State.hearAnswer
  split
  · exact h
  · exact h.hear i

theorem requestAnswered (h : s.bounded) (t : Tag) (i : Station) (code : AckCode) :
    (s.requestAnswered t i code).bounded :=
  ((hearAnswer (s := s.afterSlot true) h i code).afterAttempt t code).followThrough

theorem replyAnswered (h : s.bounded) (i : Station) (t : Tag) (code : AckCode) : (s.replyAnswered i t code).bounded := by
  have ha : ((s.afterSlot false).hearAnswer i code).bounded := hearAnswer (s := s.afterSlot false) h i code
  unfold State.replyAnswered
  simp only
  split
  · exact ha.removeReply i t
  · exact ha.removeReply i t
  · exact ha.failReply i t

theorem announced (h : s.bounded) : s.announced.bounded := by
  unfold State.announced
  simp only
  split
  · exact setLink (s := { s.afterDelimiter with membership := _ }) h .online
  · exact h

theorem left (h : s.bounded) : s.left.bounded := by
  unfold State.left
  split
  · exact h.offlineByLeave
  · exact h

/-! ## Intervals and the medium -/

theorem endBackoff (h : s.bounded) (t : Tag) : (s.endBackoff t).bounded := by
  unfold State.endBackoff
  split
  · split <;> exact h
  · exact h

theorem endLoopbackBackoff (h : s.bounded) (t : Tag) : (s.endLoopbackBackoff t).bounded := by
  unfold State.endLoopbackBackoff
  split
  · split
    · exact (h.presentLoopback t).followThrough
    · exact h
  · exact h

theorem endReplyBackoff (h : s.bounded) (i : Station) (t : Tag) : (s.endReplyBackoff i t).bounded := by
  unfold State.endReplyBackoff
  split
  · exact (h.updateReply _ _ _ _).withInbound (h.updateReply _ _ _ _).list_length
  · exact h

theorem timeOut (h : s.bounded) (t : Tag) : (s.timeOut t).bounded := by
  unfold State.timeOut
  split
  · split
    · exact (h.endEntry _ _ _).followThrough
    · exact h
  · exact h

theorem endRound (h : s.bounded) : s.endRound.bounded := by
  unfold State.endRound
  split <;> exact h

theorem endListen (h : s.bounded) : s.endListen.bounded := by
  unfold State.endListen
  split
  · exact h.setLink .announcing
  · exact h

theorem endSync (h : s.bounded) : s.endSync.bounded := by
  unfold State.endSync
  split <;> exact h

theorem strayBit (h : s.bounded) : s.strayBit.bounded := by
  unfold State.strayBit
  split
  · exact h
  split <;> exact h

theorem startSeen (h : s.bounded) : s.startSeen.bounded := by
  unfold State.startSeen
  split <;> exact h

theorem dropFrame (h : s.bounded) (n : Nat) : (s.dropFrame n).bounded := by
  unfold State.dropFrame
  split <;> exact h

theorem endSlotAfterReset (h : s.bounded) : s.endSlotAfterReset.bounded := by
  unfold State.endSlotAfterReset
  split
  · exact h
  split <;> exact h

theorem tick (h : s.bounded) : s.tick.bounded := by
  unfold State.tick
  split
  · exact h
  · exact h.withInbound ((List.length_map _).trans_le h.list_length)

/-! ## Frames heard -/

theorem decideOffer (h : s.bounded) (i : Station) (t : Tag) (b : Bool) (o : Offer) : (s.decideOffer i t b o).bounded := by
  unfold State.decideOffer
  simp only
  split
  · exact (h.hear i).acceptDecision i t b o
  · exact h.hear i

theorem answer (h : s.bounded) (i : Station) (t : Tag) (b : Bool) (st : WireStatus) (data : List Word) :
    (s.answer i t b st data).bounded := by
  unfold State.answer
  simp only
  split
  · exact followThrough (s := State.drive _ _) ((h.hear i).matchResponse i t b st data)
  · exact h.hear i

end State.bounded


/-! ## Commands and steps -/

/-- What a command answers is bounded. -/
def AnswersBounded (r : Result) : Prop := ∀ t, r = .next t → t.bounded

theorem AnswersBounded.next {t : State} (h : t.bounded) : AnswersBounded (.next t) := fun _ e => by
  cases e
  exact h

theorem AnswersBounded.putBack {r : Result} (h : AnswersBounded r) (rest : List Instr) :
    AnswersBounded (Machine.putBack rest r) := by
  cases r with
  | next t => exact .next (t := t.withWaiting _) (h t rfl)
  | fault _ => exact h
  | refused _ => exact h

section Commands

variable {s : State} {f : State → State}

theorem running_bounded (h : s.bounded) (hf : ∀ {u : State}, u.bounded → (f u).bounded) :
    AnswersBounded (running s f) := by
  unfold running
  split
  · exact .next h
  · exact .next (hf h)

theorem hostAccess_bounded (h : s.bounded) {c : Instr} (hf : ∀ {u : State}, u.bounded → (f u).bounded) :
    AnswersBounded (hostAccess c s f) := by
  unfold hostAccess
  split
  · exact .next h
  · exact .next (hf h)

theorem hostWrite_bounded (h : s.bounded) {c : Instr} (hf : ∀ {u : State}, u.bounded → (f u).bounded) :
    AnswersBounded (hostWrite c s f) :=
  hostAccess_bounded h fun {u} hu => hf (u := u.answerHost .done) hu

theorem execFenceReadComplete_bounded (h : s.bounded) : AnswersBounded (execFenceReadComplete s) :=
  running_bounded h fun hu => by
    split
    · exact hu.completeFence
    · exact hu

theorem execArbitrationLost_bounded (h : s.bounded) : AnswersBounded (execArbitrationLost s) :=
  running_bounded h fun {u} hu => by
    split
    · exact State.bounded.handBack (s := u.becomeListener) hu _
    · exact hu

theorem execReadbackAbort_bounded (h : s.bounded) : AnswersBounded (execReadbackAbort s) :=
  running_bounded h fun {u} hu => by
    split
    · exact State.bounded.abortFrame (s := u.becomeListener) hu _
    · exact hu

theorem execRequestAcknowledge_bounded (h : s.bounded) (bits : BitVec 3) :
    AnswersBounded (execRequestAcknowledge bits s) :=
  running_bounded h fun hu => by
    split
    · exact hu.requestAnswered _ _ _
    · exact hu

theorem execReplyAcknowledge_bounded (h : s.bounded) (bits : BitVec 3) : AnswersBounded (execReplyAcknowledge bits s) :=
  running_bounded h fun hu => by
    split
    · exact hu.replyAnswered _ _ _
    · exact hu

theorem execAnnounceTransmitted_bounded (h : s.bounded) : AnswersBounded (execAnnounceTransmitted s) :=
  running_bounded h fun hu => by
    split
    · exact hu.announced
    · exact hu

theorem execLeaveTransmitted_bounded (h : s.bounded) : AnswersBounded (execLeaveTransmitted s) :=
  running_bounded h fun hu => by
    split
    · exact hu.left
    · exact hu

theorem execLockedReadPhaseEnd_bounded (h : s.bounded) (t : Transfer) : AnswersBounded (execLockedReadPhaseEnd t s) :=
  running_bounded h fun hu => by
    split
    · split
      · exact hu.endReadPhase _ _ t
      · exact hu
    · exact hu

theorem execProbe_bounded (h : s.bounded) (i : Station) (t : Tag) (b : Bool) : AnswersBounded (execProbe i t b s) :=
  running_bounded h fun hu => hu.heard i fun hv => by
    simp only
    split
    · exact hv.hear i
    · exact hv.hear i

theorem execRegisterWrite_bounded (h : s.bounded) (offset : BitVec 12) (w : Word) :
    AnswersBounded (execRegisterWrite offset w s) :=
  hostAccess_bounded h fun {u} hu => .either (State.bounded.writeRegister (s := u.answerHost .done) hu offset w) hu

theorem execResetAsserted_bounded (h : s.bounded) (landed : List Bool) : AnswersBounded (execResetAsserted landed s) := by
  unfold execResetAsserted
  split
  · exact .next h
  · exact .next (h.assertReset landed)

theorem execResetReleased_bounded (h : s.bounded) (p : ResetPulse) : AnswersBounded (execResetReleased p s) := by
  unfold execResetReleased
  split
  · cases p with
    | full => exact .next h.powerOn
    | short taken => exact .next (.either h.powerOn h.notReset)
  · exact .next h

theorem execHostPortReady_bounded (h : s.bounded) : AnswersBounded (execHostPortReady s) := by
  unfold execHostPortReady
  exact running_bounded h fun hu => hu

end Commands

/-- Every command keeps the bounds. -/
theorem exec_bounded (c : Instr) {s : State} (h : s.bounded) : AnswersBounded (exec c s) := by
  cases c with
  | join stn rate leaveToo enable =>
    exact hostWrite_bounded h fun {u} hu => State.bounded.joinOrLeave (s := u.setEnable enable) hu _ _ _
  | leave enable => exact hostWrite_bounded h fun {u} hu => State.bounded.leaveLink (s := u.setEnable enable) hu
  | softReset b => exact hostWrite_bounded h fun hu => hu.softReset b
  | inboundEnableWrite enable => exact hostWrite_bounded h fun hu => hu
  | limitsWrite w => exact hostWrite_bounded h fun hu => hu.setLimits w
  | mapBaseWrite w => exact hostWrite_bounded h fun hu => hu.setMapBase w
  | linkCauseClear w => exact hostWrite_bounded h fun hu => hu.clearLinkCause w
  | interruptMaskWrite w => exact hostWrite_bounded h fun hu => hu
  | fenceRead => exact hostAccess_bounded h fun hu => hu.readFence
  | fenceReadComplete => exact execFenceReadComplete_bounded h
  | signalPop w => exact hostWrite_bounded h fun hu => hu.popSignal
  | eventPop w => exact hostWrite_bounded h fun hu => hu.popEvent
  | maintRegisterWrite r w => exact hostWrite_bounded h fun hu => hu.writeMaint r w
  | update => exact hostWrite_bounded h fun hu => hu.takeUpdate
  | read => exact hostWrite_bounded h fun hu => hu.takeRead
  | invalidateAll => exact hostWrite_bounded h fun hu => hu.takeInvalidate
  | maintCommandUndefined w => exact hostWrite_bounded h fun hu => hu.addEvent _
  | slotParameterWrite k r w => exact hostWrite_bounded h fun hu => hu.writeSlot k r w
  | go k => exact hostWrite_bounded h fun hu => hu.goSlot k
  | release k => exact hostWrite_bounded h fun hu => hu.releaseSlot k
  | cancel k => exact hostWrite_bounded h fun hu => hu.cancelSlot k
  | slotCommandUndefined k w => exact hostWrite_bounded h fun hu => hu.addEvent _
  | registerWrite offset w => exact execRegisterWrite_bounded h offset w
  | registerAccessInvalid write size offset => exact hostAccess_bounded h fun hu => hu
  | apertureStore a size data => exact hostAccess_bounded h fun hu => hu.storeAccess a size data
  | apertureLoad a size => exact hostAccess_bounded h fun hu => hu.loadAccess a size
  | heldStorePlaced => exact running_bounded h fun hu => hu.endHeldStore
  | postedEntryPresented p => exact running_bounded h fun hu => hu.presentPlace p
  | loadPresented => exact running_bounded h fun hu => hu.presentLoad
  | slotPresented k => exact running_bounded h fun hu => hu.presentSlot k
  | drainComplete => exact running_bounded h fun hu => hu.checkDrain
  | transmitOpportunity => exact running_bounded h fun hu => hu.transmit
  | arbitrationLost => exact execArbitrationLost_bounded h
  | readbackAbort => exact execReadbackAbort_bounded h
  | requestAcknowledge bits => exact execRequestAcknowledge_bounded h bits
  | replyAcknowledge bits => exact execReplyAcknowledge_bounded h bits
  | announceTransmitted => exact execAnnounceTransmitted_bounded h
  | leaveTransmitted => exact execLeaveTransmitted_bounded h
  | backoffElapsed t => exact running_bounded h fun hu => hu.endBackoff t
  | loopbackBackoffElapsed t => exact running_bounded h fun hu => hu.endLoopbackBackoff t
  | replyBackoffElapsed i t => exact running_bounded h fun hu => hu.endReplyBackoff i t
  | responseTimeout t => exact running_bounded h fun hu => hu.timeOut t
  | roundGapElapsed => exact running_bounded h fun hu => hu.endRound
  | joinListenComplete => exact running_bounded h fun hu => hu.endListen
  | mediumSyncRun => exact running_bounded h fun hu => hu.endSync
  | strayDominantBit => exact running_bounded h fun hu => hu.strayBit
  | badFrame n => exact running_bounded h fun hu => hu.dropFrame n
  | malformedFrame frame => exact running_bounded h fun hu => hu.heard _ fun hv => hv.hear _
  | frameHeard i => exact running_bounded h fun hu => hu.heard i fun hv => hv.hear i
  | ownSourceFrameHeard => exact running_bounded h fun hu => hu.heard _ fun hv => hv
  | readReq i t b p o n =>
    exact running_bounded h fun hu => hu.heard i fun hv => .either (hv.decideOffer i t b _) (hv.hear i)
  | writeReq i t b p o ws =>
    exact running_bounded h fun hu => hu.heard i fun hv => .either (hv.decideOffer i t b _) (hv.hear i)
  | atomicReq i t b p o op => exact running_bounded h fun hu => hu.heard i fun hv => hv.decideOffer i t b _
  | signal i t b v => exact running_bounded h fun hu => hu.heard i fun hv => hv.decideOffer i t b _
  | probe i t b => exact execProbe_bounded h i t b
  | response i t b st data =>
    exact running_bounded h fun hu => hu.heard i fun hv => .either (hv.answer i t b st data) (hv.hear i)
  | announce i => exact running_bounded h fun hu => hu.heard i fun hv => ((hv.hear i).purge i).checkDrain
  | leaveFrame i => exact running_bounded h fun hu => hu.heard i fun hv => ((hv.hearLeave i).purge i).checkDrain
  | executionStart => exact running_bounded h fun hu => hu.startExecution
  | mapFillEnd ts => exact running_bounded h fun hu => hu.endCycle _ ts fun _ r hv => hv.fillEnded r
  | dataCycleEnd ts => exact running_bounded h fun hu => hu.endCycle _ ts fun _ r hv => hv.dataEnded r
  | lockedReadPhaseEnd t => exact execLockedReadPhaseEnd_bounded h t
  | lockedWritePhaseEnd t => exact running_bounded h fun hu => hu.endCycle _ [t] fun _ r hv => hv.dataEnded r
  | mapWriteEnd ts => exact running_bounded h fun hu => hu.endCycle _ ts fun c r hv => hv.updateEnded c r
  | maintMapReadEnd ts => exact running_bounded h fun hu => hu.endCycle _ ts fun c r hv => hv.maintReadEnded c r
  | discardedCycleEnd ts => exact running_bounded h fun hu => hu.endCycle _ ts fun _ _ hv => hv
  | resetAsserted landed => exact execResetAsserted_bounded h landed
  | resetReleased p => exact execResetReleased_bounded h p
  | hostPortReady => exact execHostPortReady_bounded h
  | startMarker => exact running_bounded h fun hu => hu.startSeen
  | acknowledgeSlotCompleted => exact running_bounded h fun hu => hu.endSlotAfterReset

/-- What the part does of itself keeps the bounds where the commands it runs do. -/
theorem idleStep_bounded {s : State} (h : s.bounded) : AnswersBounded (s.idleStep exec) := by
  unfold State.idleStep
  split
  · exact exec_bounded _ h
  split
  · exact (exec_bounded _ (s := s.withWaiting []) h).putBack _
  · exact .next h.tick

/-- Settles O56: a command from the queue, a happening that is due, a waiting access and one bit time each keep the
bounds. -/
theorem everyStepKeepsTheBounds : Obligations.EveryStepKeepsTheBounds := by
  intro s t h e
  have hq (rest : List Instr) : ({ s with pending := rest } : State).bounded := h
  unfold step at e
  split at e
  · exact exec_bounded _ (hq _) t e
  · exact idleStep_bounded h t e

end Sys2Proof.Machine

/-! SUPPORT. The fields of a register word (R175, R176), the registers at their offsets (R174), and what the writes of CONTROL,
Start Configuration and map maintenance do. -/

namespace Sys2Proof.Machine

/-! ## Fields of a word -/

/-- A field of a word that is given by its number. -/
theorem extractLsb'_ofNat_toNat (n start len : Nat) :
    ((BitVec.ofNat 32 n).extractLsb' start len).toNat = n % 2 ^ 32 / 2 ^ start % 2 ^ len := by
  rw [BitVec.extractLsb'_toNat, BitVec.toNat_ofNat, Nat.shiftRight_eq_div_pow]

/-- A bit of a word that is given by its number. -/
theorem getLsbD_ofNat_word (n : Nat) {i : Nat} (hi : i < 32) :
    (BitVec.ofNat 32 n).getLsbD i = decide (n / 2 ^ i % 2 = 1) := by
  rw [BitVec.getLsbD_ofNat, Nat.testBit_eq_decide_div_mod_eq, decide_eq_true hi, Bool.true_and]

/-- The number that a field of a word holds. -/
theorem ofNat_div_eq_extractLsb' {w : Nat} (v : BitVec w) (start len : Nat) :
    BitVec.ofNat len (v.toNat / 2 ^ start) = v.extractLsb' start len := by
  rw [BitVec.extractLsb', Nat.shiftRight_eq_div_pow]

theorem flag_le_one (b : Bool) : flag b ≤ 1 := by cases b <;> decide

/-- The bit of a word at which its number holds a flag. -/
theorem getLsbD_ofNat_flag {n i : Nat} {b : Bool} (hi : i < 32) (h : n / 2 ^ i % 2 = flag b) :
    (BitVec.ofNat 32 n).getLsbD i = b := by
  rw [getLsbD_ofNat_word n hi, h]
  cases b <;> rfl

/-! ## Window Map entry words (R3, R176) -/

theorem MapEntry.withWord0_eq (e : MapEntry) (w : Word) :
    e.withWord0 w = { e with frame := w.extractLsb' 12 20, atomicEnable := w.getLsbD 1, valid := w.getLsbD 0 } := by
  rw [← ofNat_div_eq_extractLsb' w 12 20]
  rfl

theorem MapEntry.withWord1_eq (e : MapEntry) (w : Word) :
    e.withWord1 w = { e with writeMask := w.extractLsb' 16 16, readMask := w.extractLsb' 0 16 } := by
  rw [← ofNat_div_eq_extractLsb' w 16 16, ← ofNat_div_eq_extractLsb' w 0 16, Nat.pow_zero, Nat.div_one]
  rfl

theorem mapWord0_eq (e : MapEntry) :
    mapWord0 e = BitVec.ofNat 32 (e.frame.toNat * 4096 + 2 * flag e.atomicEnable + flag e.valid) := by
  cases ha : e.atomicEnable <;> cases hv : e.valid <;> simp [mapWord0, flag, ha, hv]

theorem mapWord0_frame (e : MapEntry) : (mapWord0 e).extractLsb' 12 20 = e.frame := by
  have hf := e.frame.isLt
  have ha := flag_le_one e.atomicEnable
  have hv := flag_le_one e.valid
  refine BitVec.eq_of_toNat_eq ?_
  rw [mapWord0_eq, extractLsb'_ofNat_toNat]
  omega

theorem mapWord0_atomicEnable (e : MapEntry) : (mapWord0 e).getLsbD 1 = e.atomicEnable := by
  have ha := flag_le_one e.atomicEnable
  have hv := flag_le_one e.valid
  rw [mapWord0_eq]
  exact getLsbD_ofNat_flag (by decide) (by omega)

theorem mapWord0_valid (e : MapEntry) : (mapWord0 e).getLsbD 0 = e.valid := by
  have hv := flag_le_one e.valid
  rw [mapWord0_eq]
  exact getLsbD_ofNat_flag (by decide) (by omega)

theorem mapWord1_writeMask (e : MapEntry) : (mapWord1 e).extractLsb' 16 16 = e.writeMask :=
  BitVec.extractLsb'_append_eq_left

theorem mapWord1_readMask (e : MapEntry) : (mapWord1 e).extractLsb' 0 16 = e.readMask :=
  BitVec.extractLsb'_append_eq_right

/-- The two words of an entry hold the whole entry (R3, R176). -/
theorem mapEntryOf_words (e : MapEntry) : mapEntryOf [mapWord0 e, mapWord1 e] = e := by
  simp only [mapEntryOf, List.headD_cons, List.tail_cons, MapEntry.withWord0_eq, MapEntry.withWord1_eq, mapWord0_frame,
    mapWord0_atomicEnable, mapWord0_valid, mapWord1_writeMask, mapWord1_readMask]

/-! ## Registers at their offsets (R174) -/

/-- A register write that the Host Port takes, by what its effect is (R169). -/
theorem hostWrite_eq {c : Instr} {s t : State} {f : State → State} (h : s.hostBlocked = false)
    (hf : f (s.answerHost .done) = t) : hostWrite c s f = .next t := by
  rw [hostWrite_free c f h, hf]

/-- A word written at an aligned offset while the Host Port is free (R169). -/
theorem exec_registerWrite_free {s : State} (h : s.hostBlocked = false) {offset : BitVec 12} (ha : offset.toNat % 4 = 0)
    (w : Word) : exec (.registerWrite offset w) s = .next ((s.answerHost .done).writeRegister offset w) := by
  change execRegisterWrite offset w s = _
  rw [execRegisterWrite, hostAccess_free _ _ h, if_pos ha]

section Registers

variable (s : State)

theorem State.writeRegister_control (w : Word) : s.writeRegister 0x004#12 w = s.writeControl w := rfl
theorem State.writeRegister_limits (w : Word) : s.writeRegister 0x00C#12 w = s.setLimits w := rfl
theorem State.writeRegister_mapBase (w : Word) : s.writeRegister 0x010#12 w = s.setMapBase w := rfl
theorem State.writeRegister_maintPage (w : Word) : s.writeRegister 0x060#12 w = s.writeMaint .page w := rfl
theorem State.writeRegister_maintEntry0 (w : Word) : s.writeRegister 0x064#12 w = s.writeMaint .entry0 w := rfl
theorem State.writeRegister_maintEntry1 (w : Word) : s.writeRegister 0x068#12 w = s.writeMaint .entry1 w := rfl
theorem State.writeRegister_maintCommand (w : Word) : s.writeRegister 0x06C#12 w = s.maintCommand w := rfl

theorem State.readRegister_control : s.readRegister 0x004#12 = BitVec.ofNat 32 (256 * flag s.inbound.enable) := rfl
theorem State.readRegister_linkStatus : s.readRegister 0x008#12 = s.linkStatus := rfl
theorem State.readRegister_limits : s.readRegister 0x00C#12 = s.limits := rfl
theorem State.readRegister_mapBase : s.readRegister 0x010#12 = s.membership.config.mapBase ++ 0#15 := rfl
theorem State.readRegister_maintPage : s.readRegister 0x060#12 = BitVec.ofNat 32 s.map.maint.page.val := rfl
theorem State.readRegister_maintEntry0 : s.readRegister 0x064#12 = mapWord0 s.map.maint.entry := rfl
theorem State.readRegister_maintEntry1 : s.readRegister 0x068#12 = mapWord1 s.map.maint.entry := rfl
theorem State.readRegister_maintStatus : s.readRegister 0x070#12 = s.maintStatus := rfl

/-! ## The fields of link status and limits (R102, R175) -/

theorem LinkState.code_lt (l : LinkState) : l.code < 8 := by cases l <;> decide

theorem State.linkStatus_code : (s.linkStatus.extractLsb' 0 3).toNat = s.membership.link.code := by
  have hc := s.membership.link.code_lt
  rw [State.linkStatus, extractLsb'_ofNat_toNat]
  omega

theorem State.linkStatus_own : (s.linkStatus.extractLsb' 4 4).toNat = s.membership.own.val := by
  have hc := s.membership.link.code_lt
  have ho := s.membership.own.isLt
  rw [State.linkStatus, extractLsb'_ofNat_toNat]
  omega

theorem State.linkStatus_rate : s.linkStatus.extractLsb' 8 2 = s.membership.rate := by
  have hc := s.membership.link.code_lt
  have ho := s.membership.own.isLt
  have hr := s.membership.rate.isLt
  refine BitVec.eq_of_toNat_eq ?_
  rw [State.linkStatus, extractLsb'_ofNat_toNat]
  omega

theorem State.linkStatus_joined : s.linkStatus.getLsbD 12 = (s.membership.link != .offline) := by
  have hc := s.membership.link.code_lt
  have ho := s.membership.own.isLt
  have hr := s.membership.rate.isLt
  have hf := flag_le_one (s.membership.link != .offline)
  rw [State.linkStatus]
  exact getLsbD_ofNat_flag (by decide) (by omega)

theorem State.linkStatus_leavePending : s.linkStatus.getLsbD 13 = s.membership.leavePending := by
  have hc := s.membership.link.code_lt
  have ho := s.membership.own.isLt
  have hr := s.membership.rate.isLt
  have hf := flag_le_one (s.membership.link != .offline)
  have hl := flag_le_one s.membership.leavePending
  rw [State.linkStatus]
  exact getLsbD_ofNat_flag (by decide) (by omega)

theorem State.limits_responseTimeout : s.limits.extractLsb' 0 8 = s.membership.config.responseTimeout := by
  have ht := s.membership.config.responseTimeout.isLt
  refine BitVec.eq_of_toNat_eq ?_
  rw [State.limits, extractLsb'_ofNat_toNat]
  omega

theorem State.limits_attemptLimit : s.limits.extractLsb' 8 4 = s.membership.config.attemptLimit := by
  have ht := s.membership.config.responseTimeout.isLt
  have ha := s.membership.config.attemptLimit.isLt
  refine BitVec.eq_of_toNat_eq ?_
  rw [State.limits, extractLsb'_ofNat_toNat]
  omega

theorem State.limits_silentThreshold : s.limits.extractLsb' 12 3 = s.membership.config.silentThreshold := by
  have ht := s.membership.config.responseTimeout.isLt
  have ha := s.membership.config.attemptLimit.isLt
  have hs := s.membership.config.silentThreshold.isLt
  refine BitVec.eq_of_toNat_eq ?_
  rw [State.limits, extractLsb'_ofNat_toNat]
  omega

/-! ## The fields of the maintenance registers (R14, R175) -/

theorem State.maintPage_toNat : (BitVec.ofNat 32 s.map.maint.page.val).toNat = s.map.maint.page.val := by
  have hp := s.map.maint.page.isLt
  rw [BitVec.toNat_ofNat]
  omega

theorem State.maintStatus_busy : s.maintStatus.getLsbD 0 = (s.map.maint.state != .idle) := by
  have hb := flag_le_one (s.map.maint.state != .idle)
  rw [State.maintStatus]
  exact getLsbD_ofNat_flag (by decide) (by omega)

theorem State.maintStatus_lastError : s.maintStatus.getLsbD 1 = s.map.maint.lastError := by
  have hb := flag_le_one (s.map.maint.state != .idle)
  have he := flag_le_one s.map.maint.lastError
  rw [State.maintStatus]
  exact getLsbD_ofNat_flag (by decide) (by omega)

end Registers

/-! ## Inbound Enable and Start Configuration (R2, R26, R101, R171) -/

theorem State.setLimits_other {s : State} (h : s.membership.link ≠ .offline) (w : Word) : s.setLimits w = s := if_neg h

theorem State.setMapBase_other {s : State} (h : s.membership.link ≠ .offline) (w : Word) : s.setMapBase w = s := if_neg h

theorem State.setMapBase_offline {s : State} (h : s.membership.link = .offline) (w : Word) :
    s.setMapBase w =
      { s with
        membership := { s.membership with config := { s.membership.config with mapBase := w.extractLsb' 15 17 } }
        map := { s.map with cache := if w.extractLsb' 15 17 = s.membership.config.mapBase then s.map.cache else [] } } :=
  if_pos h

/-- The limits as a write of the limits register leaves them: a field written as 0 keeps its value (R101). -/
def StartConfig.withLimits (c : StartConfig) (w : Word) : StartConfig :=
  { c with
    responseTimeout := keepIfZero (w.extractLsb' 0 8) c.responseTimeout
    attemptLimit := keepIfZero (w.extractLsb' 8 4) c.attemptLimit
    silentThreshold := keepIfZero (w.extractLsb' 12 3) c.silentThreshold }

theorem State.setLimits_offline {s : State} (h : s.membership.link = .offline) (w : Word) :
    s.setLimits w = { s with membership := { s.membership with config := s.membership.config.withLimits w } } :=
  if_pos h

/-- A CONTROL word without a function bit (R171). -/
theorem State.writeControl_plain {w : Word} (h : w.extractLsb' 0 3 = 0#3) (s : State) :
    s.writeControl w = s.setEnable (w.getLsbD 8) := by
  have hb (i : Nat) (hi : i < 3) : w.getLsbD i = false := by
    have := congrArg (BitVec.getLsbD · i) h
    simpa [BitVec.getLsbD_extractLsb', hi] using this
  simp only [State.writeControl, hb 0 (by decide), hb 1 (by decide), hb 2 (by decide), Bool.false_eq_true, if_false]

/-- Settles O12: each write by its equation, and each field of the registers by its bits. -/
theorem inboundEnableAndStartConfigurationWrites : Obligations.InboundEnableAndStartConfigurationWrites := by
  refine ⟨fun enable s h => hostWrite_free _ _ h, fun v s h => ⟨fun hl => ⟨?_, ?_⟩, fun hl => ?_, fun hl => ?_⟩,
    fun v s h => ⟨fun hv => ?_, ?_, ?_⟩, fun s => ?_⟩
  · exact hostWrite_eq h (State.setLimits_other (s := s.answerHost .done) hl v)
  · exact hostWrite_eq h (State.setMapBase_other (s := s.answerHost .done) hl v)
  · exact ⟨s.membership.config.withLimits v, rfl, rfl, rfl, rfl,
      hostWrite_eq h (State.setLimits_offline (s := s.answerHost .done) hl v)⟩
  · exact hostWrite_eq h (State.setMapBase_offline (s := s.answerHost .done) hl v)
  · rw [exec_registerWrite_free h (by decide), State.writeRegister_control, State.writeControl_plain hv]
    exact (hostWrite_free _ _ h).symm
  · rw [exec_registerWrite_free h (by decide), State.writeRegister_limits]
    exact (hostWrite_free _ _ h).symm
  · rw [exec_registerWrite_free h (by decide), State.writeRegister_mapBase]
    exact (hostWrite_free _ _ h).symm
  · rw [State.readRegister_control, State.readRegister_limits, State.readRegister_mapBase, State.readRegister_linkStatus]
    refine ⟨?_, s.limits_responseTimeout, s.limits_attemptLimit, s.limits_silentThreshold,
      BitVec.extractLsb'_append_eq_left, s.linkStatus_code, s.linkStatus_own, s.linkStatus_rate, ?_,
      s.linkStatus_leavePending⟩
    · cases s.inbound.enable <;> rfl
    · rw [s.linkStatus_joined, bne_iff_ne]

/-! ## Map maintenance (R14, R15, R18) -/

theorem State.writeMaint_idle {s : State} (h : s.map.maint.state = .idle) (r : MaintRegister) (w : Word) :
    s.writeMaint r w = { s with map := { s.map with maint := s.map.maint.write r w } } := if_pos h

theorem State.writeMaint_busy {s : State} (h : s.map.maint.state ≠ .idle) (r : MaintRegister) (w : Word) :
    s.writeMaint r w = s := if_neg h

theorem Maintenance.write_state (m : Maintenance) (r : MaintRegister) (w : Word) : (m.write r w).state = m.state := by
  cases r <;> rfl

theorem Maintenance.write_lastError (m : Maintenance) (r : MaintRegister) (w : Word) :
    (m.write r w).lastError = m.lastError := by
  cases r <;> rfl

theorem Maintenance.write_page (m : Maintenance) (w : Word) : (m.write .page w).page.val = (w.extractLsb' 0 12).toNat := by
  rw [BitVec.extractLsb'_toNat, Nat.shiftRight_zero]
  rfl

theorem State.takeUpdate_busy {s : State} (h : s.map.maint.state ≠ .idle) : s.takeUpdate = s.refuseMaint := if_neg h

theorem State.takeRead_busy {s : State} (h : s.map.maint.state ≠ .idle) : s.takeRead = s.refuseMaint := if_neg h

theorem State.takeInvalidate_busy {s : State} (h : s.map.maint.state ≠ .idle) : s.takeInvalidate = s.refuseMaint := if_neg h

/-- A maintenance command that is refused (R15). -/
theorem exec_refusedMaint {c : Instr} {s : State} (h : s.hostBlocked = false)
    (hc : (∃ v, c = .maintCommandUndefined v) ∨
      s.map.maint.state ≠ .idle ∧ (c = .update ∨ c = .read ∨ c = .invalidateAll)) :
    exec c s = .next (s.answerHost .done).refuseMaint := by
  obtain ⟨v, rfl⟩ | ⟨hb, rfl | rfl | rfl⟩ := hc
  · exact hostWrite_free _ _ h
  · exact hostWrite_eq h (State.takeUpdate_busy (s := s.answerHost .done) hb)
  · exact hostWrite_eq h (State.takeRead_busy (s := s.answerHost .done) hb)
  · exact hostWrite_eq h (State.takeInvalidate_busy (s := s.answerHost .done) hb)

/-- The maintenance command register does what the command of its bits 1 to 0 does (R15, R175). -/
theorem exec_maintCommand {s : State} (h : s.hostBlocked = false) (v : Word) :
    exec (.registerWrite 0x06C#12 v) s =
      (if v.extractLsb' 0 2 = 1#2 then exec .update s else if v.extractLsb' 0 2 = 2#2 then exec .read s
       else if v.extractLsb' 0 2 = 3#2 then exec .invalidateAll s else exec (.maintCommandUndefined v) s) := by
  rw [exec_registerWrite_free h (by decide), State.writeRegister_maintCommand]
  simp only [State.maintCommand]
  split_ifs
  · exact (hostWrite_free _ _ h).symm
  · exact (hostWrite_free _ _ h).symm
  · exact (hostWrite_free _ _ h).symm
  · exact (hostWrite_free _ _ h).symm

/-- A maintenance register written at its offset (R174). -/
theorem exec_maintRegister {s : State} (h : s.hostBlocked = false) {offset : BitVec 12} {r : MaintRegister}
    (ha : offset.toNat % 4 = 0) (hr : ∀ (t : State) (w : Word), t.writeRegister offset w = t.writeMaint r w) (v : Word) :
    exec (.registerWrite offset v) s = exec (.maintRegisterWrite r v) s := by
  rw [exec_registerWrite_free h ha, hr]
  exact (hostWrite_free _ _ h).symm

/-- Settles O18: a register write by its equation in IDLE and BUSY, a refused command by its record, the
fields by their bits. -/
theorem maintenanceWritesByState : Obligations.MaintenanceWritesByState := by
  refine ⟨fun r v s h => ⟨fun hb => ?_, fun hi => ?_⟩, fun c s h hc => exec_refusedMaint h hc,
    fun v s h => ⟨exec_maintRegister h (by decide) State.writeRegister_maintPage v,
      exec_maintRegister h (by decide) State.writeRegister_maintEntry0 v,
      exec_maintRegister h (by decide) State.writeRegister_maintEntry1 v, exec_maintCommand h v⟩, fun s => ?_⟩
  · exact hostWrite_eq h (State.writeMaint_busy (s := s.answerHost .done) hb r v)
  · refine ⟨s.map.maint.write r v, (s.map.maint.write_state r v).trans hi, s.map.maint.write_lastError r v,
      hostWrite_eq h (State.writeMaint_idle (s := s.answerHost .done) hi r v), ?_⟩
    cases r with
    | page => exact ⟨s.map.maint.write_page v, rfl⟩
    | entry0 => exact ⟨rfl, s.map.maint.entry.withWord0_eq v⟩
    | entry1 => exact ⟨rfl, s.map.maint.entry.withWord1_eq v⟩
  · rw [State.readRegister_maintPage, State.readRegister_maintEntry0, State.readRegister_maintEntry1,
      State.readRegister_maintStatus]
    refine ⟨s.maintPage_toNat, mapWord0_frame _, mapWord0_atomicEnable _, mapWord0_valid _, mapWord1_writeMask _,
      mapWord1_readMask _, ?_, s.maintStatus_lastError⟩
    rw [s.maintStatus_busy, bne_iff_ne]

theorem State.takeInvalidate_idle {s : State} (h : s.map.maint.state = .idle) :
    s.takeInvalidate =
      { s with map :=
        { cache := []
          fill := s.map.fill.map fun f => { f with void := true }
          maint := { s.map.maint with lastError := false } } } := if_pos h

/-- Settles O20, by the equation of INVALIDATE-ALL in IDLE. -/
theorem invalidateAllEmptiesTheMapCache : Obligations.InvalidateAllEmptiesTheMapCache := fun s h hi =>
  hostWrite_eq h (State.takeInvalidate_idle (s := s.answerHost .done) hi)

end Sys2Proof.Machine

/-! SUPPORT. The Memory Port (chapter 9): where a request goes, what starts next, and how the cycle in progress ends for its
requester; with the two maintenance operations that use it. -/

namespace Sys2Proof.Machine

/-! ## Requests -/

theorem mapEntryAddress_toNat (base : BitVec 17) (p : Page) :
    (mapEntryAddress base p).toNat = base.toNat * 32768 + 8 * p.val := by
  have hb := base.isLt
  have hp := p.isLt
  rw [mapEntryAddress, BitVec.toNat_ofNat]
  omega

theorem Request.start_kind (q : Request) (r : Requester) (base : BitVec 17) : (q.start r base).request.kind = q.kind := by
  obtain ⟨k, a⟩ := q
  cases k <;> rfl

theorem Request.start_mapRead {q : Request} {p : Page} (hk : q.kind = .mapRead p) (r : Requester) (base : BitVec 17) :
    (q.start r base).request.addr = mapEntryAddress base p := by
  simp only [Request.start, hk]

theorem Request.start_mapWrite {q : Request} {p : Page} {e : MapEntry} (hk : q.kind = .mapWrite p e) (r : Requester)
    (base : BitVec 17) : (q.start r base).request.addr = mapEntryAddress base p := by
  simp only [Request.start, hk]

theorem Request.start_isData {q : Request} (h : q.kind.isData = true) (r : Requester) (base : BitVec 17) :
    (q.start r base).request.addr = q.addr := by
  obtain ⟨k, a⟩ := q
  cases k with
  | dataRead n => rfl
  | maskedWrite items => rfl
  | locked op => rfl
  | mapRead p => cases h
  | mapWrite p e => cases h

/-! ## The order of service (R150) -/

theorem State.portNext_maintenance {s : State} {q : Request} (h : s.port.maintenance = some q) :
    s.portNext =
      { s with port :=
        { s.port with current := some (q.start .maintenance s.membership.config.mapBase), maintenance := none } } := by
  simp only [State.portNext, h]

theorem State.portNext_engine {s : State} {q : Request} (hm : s.port.maintenance = none) (h : s.port.engine = some q) :
    s.portNext =
      { s with port := { s.port with current := some (q.start .engine s.membership.config.mapBase), engine := none } } := by
  simp only [State.portNext, hm, h]

theorem State.portNext_idle {s : State} (hm : s.port.maintenance = none) (he : s.port.engine = none) :
    s.portNext = { s with port := { s.port with current := none } } := by
  simp only [State.portNext, hm, he]

theorem State.takeUpdate_idle {s : State} (h : s.map.maint.state = .idle) :
    s.takeUpdate =
      State.portRequest .maintenance (mapWriteRequest s.membership.config.mapBase s.map.maint.page s.map.maint.entry)
        { s with map := { s.map with maint := { s.map.maint with state := .busyUpdate } } } := if_pos h

theorem State.takeRead_idle {s : State} (h : s.map.maint.state = .idle) :
    s.takeRead =
      State.portRequest .maintenance (mapReadRequest s.membership.config.mapBase s.map.maint.page)
        { s with map := { s.map with maint := { s.map.maint with state := .busyRead } } } := if_pos h

/-- Settles O19: UPDATE and READ as requests to the port, idle or busy, then the order of service and the
start of a request. -/
theorem maintenanceAsksThePortThatServesItFirst : Obligations.MaintenanceAsksThePortThatServesItFirst := by
  refine ⟨fun s h hi => ⟨mapEntryAddress s.membership.config.mapBase s.map.maint.page, mapEntryAddress_toNat _ _, ?_⟩,
    fun s => ⟨fun q h => State.portNext_maintenance h, fun q hm h => State.portNext_engine hm h,
      fun hm he => State.portNext_idle hm he, fun q r b => ?_,
      fun q => ⟨fun h => State.portRequest_idle .engine q h, fun h => ?_⟩,
      fun b p => ⟨rfl, mapEntryAddress_toNat b p⟩⟩⟩
  · intro write look cycle busy
    have hu := State.takeUpdate_idle (s := s.answerHost .done) hi
    have hr := State.takeRead_idle (s := s.answerHost .done) hi
    refine ⟨fun hc => ⟨hostWrite_eq h (hu.trans ?_), hostWrite_eq h (hr.trans ?_)⟩, fun hc => ?_⟩
    · exact State.portRequest_idle _ _ hc
    · exact State.portRequest_idle _ _ hc
    · obtain ⟨c, hc⟩ := Option.ne_none_iff_exists'.mp hc
      exact ⟨hostWrite_eq h (hu.trans (State.portRequest_busy_maintenance _ hc)),
        hostWrite_eq h (hr.trans (State.portRequest_busy_maintenance _ hc))⟩
  · exact ⟨rfl, rfl, rfl, q.start_kind r b,
      fun p hk => by rw [Request.start_mapRead hk, mapEntryAddress_toNat],
      fun p e hk => by rw [Request.start_mapWrite hk, mapEntryAddress_toNat], fun hd => Request.start_isData hd r b⟩
  · obtain ⟨c, hc⟩ := Option.ne_none_iff_exists'.mp h
    exact State.portRequest_busy_engine q hc

/-! ## The end of the cycle in progress (R154) -/

/-- A happening in the part while RESET is high, by what its effect is. -/
theorem running_eq {s t : State} {f : State → State} (h : s.pins.resetLow = false) (hf : f s = t) :
    running s f = .next t := by
  rw [running_high f h, hf]

/-- The end of a cycle that is not marked: memory is as the cycle leaves it, its requester has the outcome, and the port
starts what waits. -/
theorem State.endCycle_clear {s : State} {c : Cycle} (hc : s.port.current = some c) {meant : Cycle → Bool}
    (hm : meant c = true) (hd : c.discard = .clear) (ts : List Transfer) (f : Cycle → ReadResult → State → State) :
    s.endCycle meant ts f =
      (f c (c.run ts s.memory) { s with memory := (c.run ts s.memory).memory }).portNext := by
  simp only [State.endCycle, hc, hm, State.handOver, hd, if_true]

theorem Cycle.run_mapRead {c : Cycle} {p : Page} (hk : c.request.kind = .mapRead p) (ts : List Transfer)
    (m : List Host.Cell) : c.run ts m = readTransfers 2 c.request.addr ts m := by
  simp only [Cycle.run, hk]

theorem Cycle.run_mapWrite {c : Cycle} {p : Page} {e : MapEntry} (hk : c.request.kind = .mapWrite p e) (ts : List Transfer)
    (m : List Host.Cell) :
    c.run ts m =
      { outcome := (writeTransfers (mapEntryWords e) c.request.addr ts m).1, words := []
        memory := (writeTransfers (mapEntryWords e) c.request.addr ts m).2 } := by
  simp only [Cycle.run, hk]

theorem Cycle.isFill_of {c : Cycle} {p : Page} (hr : c.requester = .engine) (hd : c.discard = .clear)
    (hk : c.request.kind = .mapRead p) : c.isFill = true := by
  simp [Cycle.isFill, hr, hd, hk]

theorem Cycle.isUpdate_of {c : Cycle} {p : Page} {e : MapEntry} (hr : c.requester = .maintenance)
    (hd : c.discard = .clear) (hk : c.request.kind = .mapWrite p e) : c.isUpdate = true := by
  simp [Cycle.isUpdate, hr, hd, hk]

theorem Cycle.isMaintRead_of {c : Cycle} {p : Page} (hr : c.requester = .maintenance) (hd : c.discard = .clear)
    (hk : c.request.kind = .mapRead p) : c.isMaintRead = true := by
  simp [Cycle.isMaintRead, hr, hd, hk]

/-! ## The ends of the maintenance cycles (R16, R17) -/

/-- A failed maintenance cycle, field by field (R162, R175). -/
theorem EventRecord.maintFailure_eq {r : BusReply} (h : r ≠ .ok) (a : Word) :
    EventRecord.maintFailure a r =
      { kind := .maintError, station := none, tag := none, slot := none, page := none
        status := some (if r = .dataError then .dataError else .noReply), address := some (.local32 a) } := by
  cases r with
  | ok => exact absurd rfl h
  | dataError => rfl
  | noReply => rfl

theorem State.updateEnded_ok {c : Cycle} {p : Page} {e : MapEntry} (hk : c.request.kind = .mapWrite p e) {r : ReadResult}
    (h : r.outcome = .ok) (s : State) :
    s.updateEnded c r =
      { s with map :=
        { cache := s.map.cache.filter fun d => decide (d.page ≠ p)
          fill := s.map.fill.map fun f => if f.page = p then { f with void := true } else f
          maint := { s.map.maint with state := .idle, lastError := false } } } := by
  simp only [State.updateEnded, hk, h, if_true]

theorem State.updateEnded_failed {c : Cycle} {p : Page} {e : MapEntry} (hk : c.request.kind = .mapWrite p e)
    {r : ReadResult} (h : r.outcome ≠ .ok) (s : State) :
    s.updateEnded c r =
      ({ s with map := { s.map with maint := { s.map.maint with state := .idle, lastError := true } } } : State).addEvent
        { kind := .maintError, station := none, tag := none, slot := none, page := none
          status := some (if r.outcome = .dataError then .dataError else .noReply)
          address := some (.local32 c.request.addr) } := by
  simp only [State.updateEnded, hk, if_neg h, EventRecord.maintFailure_eq h]

theorem State.maintReadEnded_ok {r : ReadResult} (h : r.outcome = .ok) (c : Cycle) (s : State) :
    s.maintReadEnded c r =
      { s with map :=
        { s.map with
          maint := { s.map.maint with state := .idle, lastError := false, entry := mapEntryOf r.words } } } := if_pos h

theorem State.maintReadEnded_failed {r : ReadResult} (h : r.outcome ≠ .ok) (c : Cycle) (s : State) :
    s.maintReadEnded c r =
      ({ s with map := { s.map with maint := { s.map.maint with state := .idle, lastError := true } } } : State).addEvent
        { kind := .maintError, station := none, tag := none, slot := none, page := none
          status := some (if r.outcome = .dataError then .dataError else .noReply)
          address := some (.local32 c.request.addr) } := by
  simp only [State.maintReadEnded, if_neg h, EventRecord.maintFailure_eq h]

/-- Settles O21: the end of the cycle in progress, then what its outcome does to map maintenance. -/
theorem maintenanceCycleEnds : Obligations.MaintenanceCycleEnds := by
  refine ⟨fun ts c p e s hl hc hr hd hk =>
      ⟨(writeTransfers (mapEntryWords e) c.request.addr ts s.memory).1,
        (writeTransfers (mapEntryWords e) c.request.addr ts s.memory).2, rfl, fun ho => ?_, fun ho => ?_⟩,
    fun ts c p s hl hc hr hd hk => ⟨fun ho => ?_, fun ho => ?_⟩⟩
  · refine running_eq hl ?_
    rw [State.endCycle_clear hc (Cycle.isUpdate_of hr hd hk) hd, Cycle.run_mapWrite hk, State.updateEnded_ok hk ho]
  · refine running_eq hl ?_
    rw [State.endCycle_clear hc (Cycle.isUpdate_of hr hd hk) hd, Cycle.run_mapWrite hk, State.updateEnded_failed hk ho]
  · refine running_eq hl ?_
    rw [State.endCycle_clear hc (Cycle.isMaintRead_of hr hd hk) hd, Cycle.run_mapRead hk, State.maintReadEnded_ok ho]
  · refine running_eq hl ?_
    rw [State.endCycle_clear hc (Cycle.isMaintRead_of hr hd hk) hd, Cycle.run_mapRead hk, State.maintReadEnded_failed ho]

end Sys2Proof.Machine

/-! SUPPORT. Words and lanes of local memory (R30, R151, R176): what a read returns after a masked write. -/

namespace Sys2Proof.Machine

/-! ## Lanes -/

theorem laneAddress_toNat (a : Word) {n : Nat} (hn : n < 4) : laneAddress a n = (a.toNat + n) % 2 ^ 32 := by
  rw [laneAddress, BitVec.toNat_add, BitVec.toNat_ofNat, Nat.mod_eq_of_lt (by omega : n < 2 ^ 32)]

theorem laneAddress_inj (a : Word) {n k : Nat} (hn : n < 4) (hk : k < 4) (h : laneAddress a n = laneAddress a k) :
    n = k := by
  rw [laneAddress_toNat a hn, laneAddress_toNat a hk] at h
  omega

/-- The lanes of a word and of the next lie apart. -/
theorem laneAddress_next_ne (a : Word) {n k : Nat} (hn : n < 4) (hk : k < 4) :
    laneAddress a n ≠ laneAddress (a + 4#32) k := by
  rw [laneAddress_toNat a hn, laneAddress_toNat _ hk, BitVec.toNat_add, BitVec.toNat_ofNat]
  omega

theorem laneByte_eq (w : Word) (n : Nat) : laneByte w n = w.extractLsb' (24 - 8 * n) 8 := ofNat_div_eq_extractLsb' w _ 8

/-- A word is made of its four lanes. -/
theorem wordOfLanes_laneByte (w : Word) :
    wordOfLanes (laneByte w 0) (laneByte w 1) (laneByte w 2) (laneByte w 3) = w := by
  simp only [wordOfLanes, laneByte_eq]
  rw [BitVec.extractLsb'_append_extractLsb'_eq_extractLsb' (by decide),
    BitVec.extractLsb'_append_extractLsb'_eq_extractLsb' (by decide),
    BitVec.extractLsb'_append_extractLsb'_eq_extractLsb' (by decide)]
  exact BitVec.extractLsb'_eq_self

/-! ## Reading after a masked write -/

theorem readByte_writeLane {m : List Host.Cell} (h : memoryWf m = true) (a : Word) (mask : Lanes) (w : Word) (n b : Nat) :
    readByte (writeLane m a mask w n) b =
      if mask.getLsbD n = true ∧ b = laneAddress a n then laneByte w n else readByte m b := by
  unfold writeLane
  split
  · rename_i hn
    rw [readByte_writeByte _ _ _ h]
    simp only [hn, true_and]
  · rename_i hn
    rw [if_neg fun hb => hn hb.1]

/-- The byte at an address after a masked write, lane by lane. -/
theorem readByte_writeLanes {m : List Host.Cell} (h : memoryWf m = true) (a : Word) (mask : Lanes) (w : Word) (b : Nat) :
    readByte (writeLanes m a mask w) b =
      if mask.getLsbD 3 = true ∧ b = laneAddress a 3 then laneByte w 3
      else if mask.getLsbD 2 = true ∧ b = laneAddress a 2 then laneByte w 2
      else if mask.getLsbD 1 = true ∧ b = laneAddress a 1 then laneByte w 1
      else if mask.getLsbD 0 = true ∧ b = laneAddress a 0 then laneByte w 0
      else readByte m b := by
  have h0 := writeLane_memoryWf a mask w 0 h
  have h1 := writeLane_memoryWf a mask w 1 h0
  have h2 := writeLane_memoryWf a mask w 2 h1
  rw [writeLanes, readByte_writeLane h2, readByte_writeLane h1, readByte_writeLane h0, readByte_writeLane h]

/-- A masked write leaves every byte outside its lanes (R30). -/
theorem readByte_writeLanes_other {m : List Host.Cell} (h : memoryWf m = true) {a : Word} {mask : Lanes} {b : Nat}
    (hb : ∀ n < 4, mask.getLsbD n = true → b ≠ laneAddress a n) (w : Word) :
    readByte (writeLanes m a mask w) b = readByte m b := by
  rw [readByte_writeLanes h, if_neg fun hn => hb 3 (by decide) hn.1 hn.2,
    if_neg fun hn => hb 2 (by decide) hn.1 hn.2, if_neg fun hn => hb 1 (by decide) hn.1 hn.2,
    if_neg fun hn => hb 0 (by decide) hn.1 hn.2]

/-- A masked write puts the bytes of its lanes (R30, R176). -/
theorem readByte_writeLanes_lane {m : List Host.Cell} (h : memoryWf m = true) (a : Word) {mask : Lanes} (w : Word)
    {n : Nat} (hn : n < 4) (hm : mask.getLsbD n = true) :
    readByte (writeLanes m a mask w) (laneAddress a n) = laneByte w n := by
  have apart (k : Nat) (hk : k < 4) (hne : n ≠ k) : ¬(mask.getLsbD k = true ∧ laneAddress a n = laneAddress a k) :=
    fun hb => hne (laneAddress_inj a hn hk hb.2)
  rw [readByte_writeLanes h]
  match n with
  | 3 => rw [if_pos ⟨hm, rfl⟩]
  | 2 => rw [if_neg (apart 3 (by decide) (by decide)), if_pos ⟨hm, rfl⟩]
  | 1 => rw [if_neg (apart 3 (by decide) (by decide)), if_neg (apart 2 (by decide) (by decide)), if_pos ⟨hm, rfl⟩]
  | 0 =>
    rw [if_neg (apart 3 (by decide) (by decide)), if_neg (apart 2 (by decide) (by decide)),
      if_neg (apart 1 (by decide) (by decide)), if_pos ⟨hm, rfl⟩]

/-- A whole word written is read back. -/
theorem readWord_writeLanes_all {m : List Host.Cell} (h : memoryWf m = true) (a w : Word) :
    readWord (writeLanes m a Lanes.all w) a = w := by
  have all : ∀ n < 4, Lanes.all.getLsbD n = true := by decide
  have lane (n : Nat) (hn : n < 4) := readByte_writeLanes_lane h a w hn (all n hn)
  rw [readWord, lane 0 (by decide), lane 1 (by decide), lane 2 (by decide), lane 3 (by decide)]
  exact wordOfLanes_laneByte w

/-- A write of the next word leaves a word. -/
theorem readWord_writeLanes_next {m : List Host.Cell} (h : memoryWf m = true) (a : Word) (mask : Lanes) (w : Word) :
    readWord (writeLanes m (a + 4#32) mask w) a = readWord m a := by
  have lane (n : Nat) (hn : n < 4) := readByte_writeLanes_other h (mask := mask)
    (fun k hk _ => laneAddress_next_ne a hn hk) w
  rw [readWord, lane 0 (by decide), lane 1 (by decide), lane 2 (by decide), lane 3 (by decide)]
  rfl

/-! ## A map write and a map read that end OK (R3, R176) -/

theorem writeTransfers_mapEntryWords (e : MapEntry) (a : Word) (m : List Host.Cell) :
    writeTransfers (mapEntryWords e) a [] m =
      (.ok, writeLanes (writeLanes m a Lanes.all (mapWord0 e)) (a + 4#32) Lanes.all (mapWord1 e)) := rfl

theorem readTransfers_two (a : Word) (m : List Host.Cell) :
    readTransfers 2 a [] m = { outcome := .ok, words := [readWord m a, readWord m (a + 4#32)], memory := m } := rfl

/-- Settles O53: the bytes of a masked write lane by lane, and the two words of an entry read back. -/
theorem maskedWritesAndMapEntriesInMemory : Obligations.MaskedWritesAndMapEntriesInMemory := by
  refine ⟨fun m a mask w b h => ⟨?_, fun hb => ?_⟩, fun e a m h => ?_⟩
  · rintro n hn rfl
    exact (readByte_writeLanes_lane h a w n.isLt hn).trans (laneByte_eq w n)
  · exact readByte_writeLanes_other h (fun n hn => hb ⟨n, hn⟩) w
  · have h0 := writeLanes_memoryWf a Lanes.all (mapWord0 e) h
    simp only [writeTransfers_mapEntryWords, readTransfers_two, true_and]
    rw [readWord_writeLanes_next h0, readWord_writeLanes_all h, readWord_writeLanes_all h0]
    exact mapEntryOf_words e

end Sys2Proof.Machine

/-! SUPPORT. The Inbound Engine (chapter 2): what an execution does to the list once its one EXECUTING entry is known, from its
start or the end of its fill to its data cycle or its end. -/

namespace Sys2Proof.Machine

/-! ## Rights and atomic operations (R4, R29, R43) -/

theorem rightsFailure_atomic (m : MapEntry) (i : Station) (op : AtomicOp) :
    rightsFailure m i (.atomic op) =
      if m.readMask.getLsbD i = true ∧ m.writeMask.getLsbD i = true then
        (if m.atomicEnable then none else some .atomicDisabled)
      else some .notPermitted := by
  simp only [rightsFailure, MapEntry.mayRead, MapEntry.mayWrite, Bool.and_eq_true]

/-- The rights check fails with a status that is not OK. -/
theorem rightsFailure_ne_ok {m : MapEntry} {i : Station} {b : RequestBody} {w : WireStatus}
    (h : rightsFailure m i b = some w) : w ≠ .ok := by
  rintro rfl
  cases b with
  | read n => simp [rightsFailure] at h
  | write ws => simp [rightsFailure] at h
  | atomic op =>
    rw [rightsFailure_atomic] at h
    split_ifs at h <;> cases h

/-- Settles O48, by the kinds of request and of atomic operation. -/
theorem rightsAndAtomicOperations : Obligations.RightsAndAtomicOperations := by
  refine ⟨fun m i => ⟨fun n => rfl, fun ws => rfl, rightsFailure_atomic m i⟩, fun a b old => ⟨?_, rfl, ?_, ?_⟩⟩
  · exact ⟨old + a, rfl, BitVec.toNat_add old a⟩
  · exact fun h => if_pos h
  · exact fun h => if_neg h

/-! ## The EXECUTING entry -/

section Executing

variable {s : State} {pre post : List ListEntry} {e : ListEntry}

theorem executes.executing_eq (h : executes s.inbound.list pre e post) : s.executing = some e :=
  State.executing_eq h.1 h.2.1 h.2.2

/-- A change of the EXECUTING entry leaves every other entry and the reply order. -/
theorem executes.updateExecuting_eq (h : executes s.inbound.list pre e post) (f : ListEntry → ListEntry) :
    s.updateExecuting f = s.withList (pre ++ f e :: post) s.inbound.replyOrder := by
  obtain ⟨hl, he, hn⟩ := h
  have hm := map_update_at (p := fun x : ListEntry => x.state = .executing) (g := f) he hn
  rw [State.updateExecuting, hl, hm]
  rfl

/-- An execution for another station that is not orphaned ends REPLY-READY, with INBOUND-REJECTED unless it ends OK (R30,
R31). -/
theorem executes.endExecution_other (h : executes s.inbound.list pre e post) (ho : e.source ≠ s.membership.own)
    (hn : e.orphaned = false) (st : WireStatus) (data : List Word) :
    s.endExecution st data =
      (if st = .ok then s else s.addEvent (.rejected e st)).withList
        (pre ++ { e with state := .replyReady, status := some st, data := data } :: post)
        (s.inbound.replyOrder ++ [(e.source, e.tag)]) := by
  rw [State.endExecution, h.executing_eq]
  split_ifs with hst
  · simp only [hst, hn, Bool.false_eq_true, if_false, ho, h.updateExecuting_eq]
    rfl
  · have hr : executes (s.addEvent (.rejected e st)).inbound.list pre e post := h
    simp only [if_false, hn, Bool.false_eq_true, State.addEvent_membership, ho, hr.updateExecuting_eq]
    rfl

theorem executes.endExecution_rejected (h : executes s.inbound.list pre e post) (ho : e.source ≠ s.membership.own)
    (hn : e.orphaned = false) {st : WireStatus} (hst : st ≠ .ok) (data : List Word) :
    s.endExecution st data =
      (s.addEvent (.rejected e st)).withList
        (pre ++ { e with state := .replyReady, status := some st, data := data } :: post)
        (s.inbound.replyOrder ++ [(e.source, e.tag)]) := by
  rw [h.endExecution_other ho hn, if_neg hst]

/-! ## Translation (R28 to R30) -/

theorem executes.translated_invalid (h : executes s.inbound.list pre e post) {m : MapEntry} (hv : m.valid = false) :
    s.translated m = s.endExecution .noWindow [] := by
  simp only [State.translated, h.executing_eq, hv, Bool.not_false, if_true]

theorem executes.translated_refused (h : executes s.inbound.list pre e post) {m : MapEntry} (hv : m.valid = true)
    {w : WireStatus} (hr : rightsFailure m e.source e.body = some w) :
    s.translated m =
      (s.withList (pre ++ { e with localAddr := some (localAddress m e.offset) } :: post)
        s.inbound.replyOrder).endExecution w [] := by
  simp only [State.translated, h.executing_eq, hv, hr, Bool.not_true, Bool.false_eq_true, if_false, h.updateExecuting_eq]

theorem executes.translated_granted (h : executes s.inbound.list pre e post) {m : MapEntry} (hv : m.valid = true)
    (hr : rightsFailure m e.source e.body = none) :
    s.translated m =
      State.portRequest .engine { kind := e.body.cycle, addr := localAddress m e.offset }
        (s.withList (pre ++ { e with localAddr := some (localAddress m e.offset) } :: post) s.inbound.replyOrder) := by
  simp only [State.translated, h.executing_eq, hv, hr, Bool.not_true, Bool.false_eq_true, if_false, h.updateExecuting_eq]

end Executing

/-! ## Lookup (R6 to R8) -/

/-- A hit hands over its copy, which becomes the most recent (R6, R7). -/
theorem State.lookup_hit {s : State} {ca cb : List CacheEntry} {c : CacheEntry} {p : Page}
    (hc : s.map.cache = ca ++ c :: cb) (hp : c.page = p) (hn : ∀ d ∈ ca ++ cb, d.page ≠ p) :
    s.lookup p = ({ s with map := { s.map with cache := ca ++ cb ++ [c] } } : State).translated c.entry := by
  have hfind : s.map.cache.find? (fun d => d.page == p) = some c := by
    rw [hc]
    exact find?_at (by simp [hp]) fun d hd => by simp [hn d (by simp [hd])]
  have hrest : (s.map.cache.filter fun d => decide (d.page ≠ p)) = ca ++ cb := by
    rw [hc]
    exact filter_at (by simp [hp]) fun d hd => by simp [hn d hd]
  simp only [State.lookup, hfind, hrest]

/-- A miss starts a fill (R8). -/
theorem State.lookup_miss {s : State} {p : Page} (hn : ∀ c ∈ s.map.cache, c.page ≠ p) :
    s.lookup p =
      State.portRequest .engine (mapReadRequest s.membership.config.mapBase p)
        { s with map := { s.map with fill := some { page := p, void := false } } } := by
  have hfind : s.map.cache.find? (fun d => d.page == p) = none :=
    List.find?_eq_none.mpr fun c hc => by simpa using hn c hc
  simp only [State.lookup, hfind]

/-! ## The start of an execution (R27, R28) -/

section Start

variable {s : State} {pre post : List ListEntry} {e : ListEntry}

/-- The state in which the oldest NEW entry has become EXECUTING. -/
def State.started (pre : List ListEntry) (e : ListEntry) (post : List ListEntry) (s : State) : State :=
  s.withList (pre ++ { e with state := .executing } :: post) s.inbound.replyOrder

theorem nextToExecute.executes_started (h : nextToExecute s.inbound.list pre e post) :
    executes (s.started pre e post).inbound.list pre { e with state := .executing } post := by
  obtain ⟨hl, -, -, hx⟩ := h
  refine ⟨rfl, rfl, fun f hf => hx f ?_⟩
  rw [hl]
  rcases List.mem_append.mp hf with hf | hf
  · simp [hf]
  · simp [hf]

theorem nextToExecute.startExecution_eq (h : nextToExecute s.inbound.list pre e post) :
    s.startExecution =
      if e.crossesPage then (s.started pre e post).endExecution .boundary []
      else (s.started pre e post).lookup e.page := by
  have hg : ({ s with inbound := { s.inbound with list := markOldest s.inbound.list } } : State) = s.started pre e post := by
    rw [h.1, markOldest_at h.2.1 h.2.2.1]
    rfl
  simp only [State.startExecution, State.executing_none h.2.2.2, hg, h.executes_started.executing_eq]
  rfl

theorem nextToExecute.startExecution_boundary (h : nextToExecute s.inbound.list pre e post)
    (hb : 1024 < e.offset.val + e.body.count) :
    s.startExecution = (s.started pre e post).endExecution .boundary [] :=
  h.startExecution_eq.trans (if_pos (decide_eq_true hb))

theorem nextToExecute.startExecution_lookup (h : nextToExecute s.inbound.list pre e post)
    (hb : e.offset.val + e.body.count ≤ 1024) : s.startExecution = (s.started pre e post).lookup e.page :=
  h.startExecution_eq.trans (if_neg fun hc => absurd (of_decide_eq_true hc) (Nat.not_lt.mpr hb))

end Start

theorem markOldest_none {l : List ListEntry} (h : ∀ e ∈ l, e.state ≠ .fresh) : markOldest l = l := by
  induction l with
  | nil => rfl
  | cons e es ih => rw [markOldest, if_neg (h e (by simp)), ih fun f hf => h f (by simp [hf])]

/-- With no NEW entry, or with one EXECUTING, nothing starts (R27). -/
theorem State.startExecution_none {s : State}
    (h : (∀ e ∈ s.inbound.list, e.state ≠ .fresh) ∨ ∃ e ∈ s.inbound.list, e.state = .executing) :
    s.startExecution = s := by
  cases hx : s.executing with
  | some e => simp only [State.startExecution, hx]
  | none =>
    obtain h | ⟨e, he, hs⟩ := h
    · simp only [State.startExecution, hx, markOldest_none h]
    · exact absurd hs (by simpa using List.find?_eq_none.mp hx e he)

/-- The start of an execution whose page has a copy (R7): the list with the entry EXECUTING, the copy most recent. -/
theorem nextToExecute.startExecution_hit {s : State} {pre post : List ListEntry} {e : ListEntry}
    (h : nextToExecute s.inbound.list pre e post) (hb : e.offset.val + e.body.count ≤ 1024) {ca cb : List CacheEntry}
    {c : CacheEntry} (hc : s.map.cache = ca ++ c :: cb) (hp : c.page = e.page) (hn : ∀ d ∈ ca ++ cb, d.page ≠ e.page) :
    s.startExecution =
      (({ s with map := { s.map with cache := ca ++ cb ++ [c] } } : State).started pre e post).translated c.entry :=
  (h.startExecution_lookup hb).trans (State.lookup_hit (s := s.started pre e post) hc hp hn)

/-- Settles O49, by the branches of the start: past the page, a miss, and a hit with its three outcomes. -/
theorem executionStartsTheOldestNewEntry : Obligations.ExecutionStartsTheOldestNewEntry := by
  refine ⟨fun pre post e s hl h hn => ?_, fun s h => ?_⟩
  · intro key other own rejected ready going
    refine ⟨fun hb => ⟨fun ho => ?_, fun _ => ?_⟩, fun hb hm => ?_, fun ca cb c hb hc hp hd => ?_⟩
    · exact running_eq hl ((h.startExecution_boundary hb).trans
        (h.executes_started.endExecution_rejected ho hn (by decide) []))
    · exact running_eq hl (h.startExecution_boundary hb)
    · exact running_eq hl ((h.startExecution_lookup hb).trans (State.lookup_miss (s := s.started pre e post) hm))
    · intro g a
      have hs := h.startExecution_hit hb hc hp hd
      have hg : nextToExecute g.inbound.list pre e post := h
      have hx := hg.executes_started
      refine ⟨fun hv => ⟨fun ho => ?_, fun _ => ?_⟩, fun w hv hr => ⟨fun ho => ?_, fun _ => ?_⟩, fun hv hr => ?_⟩
      · exact running_eq hl ((hs.trans (hx.translated_invalid hv)).trans
          (hx.endExecution_rejected ho hn (by decide) []))
      · exact running_eq hl (hs.trans (hx.translated_invalid hv))
      · have ha : executes (going { e with state := .executing, localAddr := some a } g).inbound.list pre
            { e with state := .executing, localAddr := some a } post := ⟨rfl, rfl, hx.2.2⟩
        exact running_eq hl ((hs.trans (hx.translated_refused hv hr)).trans
          (ha.endExecution_rejected ho hn (rightsFailure_ne_ok hr) []))
      · exact running_eq hl (hs.trans (hx.translated_refused hv hr))
      · exact running_eq hl (hs.trans (hx.translated_granted hv hr))
  · cases hl : s.pins.resetLow with
    | true => exact running_low _ hl
    | false => exact running_eq hl (State.startExecution_none h)

/-! ## The end of a fill (R9 to R11) -/

section Fill

variable {s : State} {f : Fill} {r : ReadResult}

theorem State.fillEnded_void (hf : s.map.fill = some f) (hv : f.void = true) (r : ReadResult) :
    s.fillEnded r =
      State.portRequest .engine (mapReadRequest s.membership.config.mapBase f.page)
        { s with map := { s.map with fill := some { f with void := false } } } := by
  simp only [State.fillEnded, hf, hv, if_true]

theorem State.fillEnded_failed (hf : s.map.fill = some f) (hv : f.void = false) (hr : r.outcome ≠ .ok) :
    s.fillEnded r = ({ s with map := { s.map with fill := none } } : State).endExecution .mapError [] := by
  simp only [State.fillEnded, hf, hv, Bool.false_eq_true, if_false, if_neg hr]

theorem State.fillEnded_ok (hf : s.map.fill = some f) (hv : f.void = false) (hr : r.outcome = .ok) :
    s.fillEnded r =
      ({ s with map :=
        { s.map with
          fill := none
          cache := installCopy s.map.cache { page := f.page, entry := mapEntryOf r.words } } } : State).translated
        (mapEntryOf r.words) := by
  simp only [State.fillEnded, hf, hv, hr, Bool.false_eq_true, if_false, if_true]

end Fill

/-- The end of the map read of the pending fill, by what it does once memory is as the read left it. -/
theorem exec_mapFillEnd {s : State} {c : Cycle} {p : Page} (hl : s.pins.resetLow = false) (hc : s.port.current = some c)
    (hr : c.requester = .engine) (hd : c.discard = .clear) (hk : c.request.kind = .mapRead p) (ts : List Transfer)
    {t : State}
    (ht : ({ s with memory := (readTransfers 2 c.request.addr ts s.memory).memory } : State).fillEnded
      (readTransfers 2 c.request.addr ts s.memory) = t) :
    exec (.mapFillEnd ts) s = .next t.portNext := by
  refine running_eq hl ?_
  rw [State.endCycle_clear hc (Cycle.isFill_of hr hd hk) hd, Cycle.run_mapRead hk, ht]

/-- Settles O50, by the outcomes of the fill: void, failed, and installed with its three outcomes. -/
theorem mapFillEndInstallsRepeatsOrFails : Obligations.MapFillEndInstallsRepeatsOrFails := by
  intro ts c p f pre post e s hl hc hr hd hk hf hx r h
  have hend {t : State} := exec_mapFillEnd hl hc hr hd hk ts (t := t)
  refine ⟨fun hv => ?_, fun hv hfail => ⟨?_, fun ho hn => ?_⟩, fun hv hok => ?_⟩
  · exact hend (State.fillEnded_void (s := { s with memory := r.memory }) hf hv r)
  · exact hend (State.fillEnded_failed (s := { s with memory := r.memory }) hf hv hfail)
  · have hh : executes h.inbound.list pre e post := hx
    exact hend ((State.fillEnded_failed (s := { s with memory := r.memory }) hf hv hfail).trans
      (hh.endExecution_rejected ho hn (by decide) []))
  · intro m kept g a addressed
    have hg : executes g.inbound.list pre e post := hx
    have hin := State.fillEnded_ok (s := { s with memory := r.memory }) hf hv hok
    refine ⟨fun hm => ?_, fun w hm hw => ?_, fun hm hw => ?_⟩
    · exact hend (hin.trans (hg.translated_invalid hm))
    · exact hend (hin.trans (hg.translated_refused hm hw))
    · exact hend (hin.trans (hg.translated_granted hm hw))

end Sys2Proof.Machine

/-! SUPPORT. The agreement of the Duplicate Filter and the Inbound Request List (R20, R21), with what the Memory Port holds for
the EXECUTING entry (R39, R149): what each operation does to them. An operation that leaves the port alone and loses no EXECUTING
entry is one that `Keeps` them; what the Inbound Engine does with a translation or an outcome is said once, by `EngineGoesOn`. -/

namespace Sys2Proof.Machine

/-! ## Changes of the list under a sound filter (R20, R21) -/

/-- What the agreement with the filter reads of an entry. -/
def ListEntry.key (e : ListEntry) : Station × Tag × Bool × Bool := (e.source, e.tag, e.issue, e.orphaned)

namespace Inbound.sound

variable {u : Inbound}

theorem executing_unique (h : u.sound) {e f : ListEntry} (he : e ∈ u.list) (hf : f ∈ u.list) (hes : e.state = .executing)
    (hfs : f.state = .executing) : e = f := by
  have hc := h.1
  have hm : ∀ x ∈ u.list, x.state = .executing → x ∈ u.list.filter fun e => e.state == .executing := fun x hx hs =>
    List.mem_filter.mpr ⟨hx, by simp [hs]⟩
  replace he := hm e he hes
  replace hf := hm f hf hfs
  rw [List.countP_eq_length_filter] at hc
  generalize u.list.filter (fun e => e.state == .executing) = l at hc he hf
  rcases l with _ | ⟨x, _ | ⟨y, l⟩⟩
  · cases he
  · rw [List.mem_singleton.mp he, List.mem_singleton.mp hf]
  · simp only [List.length_cons] at hc
    omega

theorem orphan_executing (h : u.sound) {e : ListEntry} (he : e ∈ u.list) (ho : e.orphaned = true) : e.state = .executing :=
  h.2.1 e he ho

theorem not_orphaned (h : u.sound) {e : ListEntry} (he : e ∈ u.list) (hs : e.state ≠ .executing) : e.orphaned = false :=
  Bool.eq_false_iff.mpr fun ho => hs (h.orphan_executing he ho)

/-- Two entries of one source and tag that are not orphaned are one. -/
theorem eq_of_key (h : u.sound) {e f : ListEntry} (he : e ∈ u.list) (hf : f ∈ u.list) (heo : e.orphaned = false)
    (hfo : f.orphaned = false) (hs : e.source = f.source) (ht : e.tag = f.tag) : e = f := by
  by_contra hne
  have hsym : Std.Symm fun e f : ListEntry =>
      e.orphaned = true ∨ f.orphaned = true ∨ e.source ≠ f.source ∨ e.tag ≠ f.tag := ⟨fun a b hab => by
    simpa only [ne_comm, or_left_comm] using hab⟩
  have := h.2.2.1.forall he hf hne
  simp [heo, hfo, hs, ht] at this

theorem opened_iff (h : u.sound) (i : Station) (t : Tag) (b : Bool) :
    u.filter[i][t] = { issue := b, state := .opened } ↔
      ∃ e ∈ u.list, e.orphaned = false ∧ e.source = i ∧ e.tag = t ∧ e.issue = b :=
  h.2.2.2 i t b

/-- Entries may change in all that the filter does not read, while at most one is EXECUTING and every orphan is. -/
theorem relist (h : u.sound) {l : List ListEntry} (hk : l.map ListEntry.key = u.list.map ListEntry.key)
    (hc : l.countP (fun e => e.state == .executing) ≤ 1) (ho : ∀ e ∈ l, e.orphaned = true → e.state = .executing)
    (order : List (Station × Tag)) (enable : Bool) :
    ({ u with list := l, replyOrder := order, enable := enable } : Inbound).sound := by
  let apart (k k' : Station × Tag × Bool × Bool) : Prop := k.2.2.2 = true ∨ k'.2.2.2 = true ∨ k.1 ≠ k'.1 ∨ k.2.1 ≠ k'.2.1
  have hp : (u.list.map ListEntry.key).Pairwise apart := List.pairwise_map.mpr h.2.2.1
  have hp' := List.pairwise_map.mp (hk ▸ hp)
  refine ⟨hc, ho, hp', fun i t b => (h.opened_iff i t b).trans ?_⟩
  have keyed : ∀ m : List ListEntry, (∃ e ∈ m, e.orphaned = false ∧ e.source = i ∧ e.tag = t ∧ e.issue = b) ↔
      (i, t, b, false) ∈ m.map ListEntry.key := fun m => by
    simp only [List.mem_map, ListEntry.key, Prod.mk.injEq]
    exact exists_congr fun e => and_congr_right fun _ => by tauto
  rw [keyed, keyed, hk]

/-- Only orphans leave the list: the filter does not see it (R37, R39). -/
theorem dropOrphans (h : u.sound) {p : ListEntry → Bool} (hp : ∀ e ∈ u.list, p e = false → e.orphaned = true) :
    ({ u with list := u.list.filter p } : Inbound).sound := by
  refine ⟨List.filter_sublist.countP_le.trans h.1, fun e he => h.2.1 e (List.mem_filter.mp he).1,
    h.2.2.1.sublist List.filter_sublist, fun i t b => (h.opened_iff i t b).trans ?_⟩
  constructor
  · rintro ⟨e, he, ho, hk⟩
    exact ⟨e, List.mem_filter.mpr ⟨he, by by_contra hpe; simp [hp e he (by simpa using hpe)] at ho⟩, ho, hk⟩
  · rintro ⟨e, he, hk⟩
    exact ⟨e, (List.mem_filter.mp he).1, hk⟩

end Inbound.sound

/-! ## Changes of one filter record -/

theorem setFilter_at (filter : Vector (Vector FilterRecord 16) 16) (i j : Station) (t g : Tag) (r : FilterRecord) :
    (filter.set i (filter[i].set t r))[j][g] = if i = j ∧ t = g then r else filter[j][g] := by
  simp only [Fin.getElem_fin, Vector.getElem_set]
  by_cases hi : i = j
  · subst hi
    by_cases ht : t = g <;> simp [ht, Fin.val_inj]
  · simp [hi, Fin.val_inj]

namespace Inbound.sound

variable {u : Inbound}

/-- A record that is not OPEN has no entry. -/
theorem no_entry (h : u.sound) {i : Station} {t : Tag} (hf : (u.filter[i][t]).state ≠ .opened) {e : ListEntry}
    (he : e ∈ u.list) (ho : e.orphaned = false) (hs : e.source = i) (ht : e.tag = t) : False :=
   hf (by rw [(h.opened_iff i t e.issue).mpr ⟨e, he, ho, hs, ht, rfl⟩])

/-- An entry and the OPEN record of its source and tag go together (R32). -/
theorem removeClosing (h : u.sound) {e : ListEntry} (he : e ∈ u.list) (ho : e.orphaned = false) {p : ListEntry → Bool}
    (hpe : p e = false) (hp : ∀ f ∈ u.list, p f = false → f.orphaned = false ∧ f.source = e.source ∧ f.tag = e.tag) :
    ({ u with
      list := u.list.filter p
      filter := u.filter.set e.source (u.filter[e.source].set e.tag { issue := e.issue, state := .closed }) } :
        Inbound).sound := by
  refine ⟨List.filter_sublist.countP_le.trans h.1, fun f hf => h.2.1 f (List.mem_filter.mp hf).1,
    h.2.2.1.sublist List.filter_sublist, fun i t b => ?_⟩
  simp only [setFilter_at, List.mem_filter]
  by_cases hk : e.source = i ∧ e.tag = t
  · rw [if_pos hk]
    refine ⟨nofun, fun ⟨f, ⟨hf, hpf⟩, hfo, hs, ht, _⟩ => ?_⟩
    rw [h.eq_of_key he hf ho hfo (hk.1.trans hs.symm) (hk.2.trans ht.symm), hpf] at hpe
    cases hpe
  · rw [if_neg hk, h.opened_iff]
    refine exists_congr fun f => ⟨fun ⟨hf, hfo, hs, ht, hb⟩ => ⟨⟨hf, ?_⟩, hfo, hs, ht, hb⟩,
      fun ⟨⟨hf, _⟩, hr⟩ => ⟨hf, hr⟩⟩
    by_contra hpf
    obtain ⟨-, hs', ht'⟩ := hp f hf (by simpa using hpf)
    exact hk ⟨hs'.symm.trans hs, ht'.symm.trans ht⟩

/-- A request is accepted: a NEW entry and its OPEN record (R24). -/
theorem accept (h : u.sound) {e : ListEntry} (hs : e.state = .fresh) (ho : e.orphaned = false)
    (hf : (u.filter[e.source][e.tag]).state ≠ .opened) :
    ({ u with
      list := u.list ++ [e]
      filter := u.filter.set e.source (u.filter[e.source].set e.tag { issue := e.issue, state := .opened }) } :
        Inbound).sound := by
  refine ⟨?_, fun f hm hfo => ?_, ?_, fun i t b => ?_⟩
  · simpa [List.countP_append, hs] using h.1
  · rcases List.mem_append.mp hm with hm | hm
    · exact h.orphan_executing hm hfo
    · rw [List.mem_singleton.mp hm, ho] at hfo
      cases hfo
  · refine List.pairwise_append.mpr ⟨h.2.2.1, List.pairwise_singleton _ _, fun f hm g hg => ?_⟩
    rw [List.mem_singleton.mp hg]
    by_contra hn
    simp only [not_or, not_not, Bool.not_eq_true] at hn
    exact h.no_entry hf hm hn.1 hn.2.2.1 hn.2.2.2
  · simp only [setFilter_at, List.mem_append, List.mem_singleton, or_and_right, exists_or, exists_eq_left, ho, true_and]
    by_cases hk : e.source = i ∧ e.tag = t
    · obtain ⟨rfl, rfl⟩ := hk
      simp only [and_self, if_true, FilterRecord.mk.injEq, true_and, and_true]
      exact ⟨.inr, fun hx => hx.elim (fun ⟨f, hm, hfo, hs, ht, _⟩ => (h.no_entry hf hm hfo hs ht).elim) id⟩
    · rw [if_neg hk, h.opened_iff]
      exact ⟨.inl, fun hx => hx.elim id fun hx => absurd ⟨hx.1, hx.2.1⟩ hk⟩

/-- A signal is accepted: its record is CLOSED with no entry (R49). -/
theorem acceptClosed (h : u.sound) {i : Station} {t : Tag} (hf : (u.filter[i][t]).state ≠ .opened) (b : Bool) :
    ({ u with filter := u.filter.set i (u.filter[i].set t { issue := b, state := .closed }) } : Inbound).sound := by
  refine ⟨h.1, h.2.1, h.2.2.1, fun j g c => ?_⟩
  simp only [setFilter_at]
  by_cases hk : i = j ∧ t = g
  · rw [if_pos hk]
    exact ⟨nofun, fun ⟨f, hm, hfo, hs, ht, _⟩ => (h.no_entry hf hm hfo (hs.trans hk.1.symm) (ht.trans hk.2.symm)).elim⟩
  · rw [if_neg hk]
    exact h.opened_iff j g c

end Inbound.sound

/-- With every record EMPTY and none but orphaned EXECUTING entries, filter and list agree (R38, R39). -/
theorem Inbound.sound_of_orphans {u : Inbound} (hc : u.list.countP (fun e => e.state == .executing) ≤ 1)
    (hx : ∀ e ∈ u.list, e.state = .executing) (ho : ∀ e ∈ u.list, e.orphaned = true) (hf : u.filter = emptyFilter) :
    u.sound := by
  refine ⟨hc, fun e he _ => hx e he, ?_, fun i t b => ?_⟩
  · exact List.pairwise_of_forall_mem_list fun e he f _ => .inl (ho e he)
  · constructor
    · rw [hf]
      simp [emptyFilter]
    · rintro ⟨e, he, hn, -⟩
      rw [ho e he] at hn
      cases hn

/-- What a purge does to an entry that stays (R37). -/
def ListEntry.purged (i : Station) (e : ListEntry) : ListEntry := if e.source = i then { e with orphaned := true } else e

theorem ListEntry.purged_state (i : Station) (e : ListEntry) : (e.purged i).state = e.state := by
  unfold ListEntry.purged
  split <;> rfl

theorem ListEntry.purged_same {i : Station} {e : ListEntry} (h : e.source = i) :
    e.purged i = { e with orphaned := true } := if_pos h

theorem ListEntry.purged_other {i : Station} {e : ListEntry} (h : e.source ≠ i) : e.purged i = e := if_neg h

theorem ListEntry.purged_orphaned (e : ListEntry) {i : Station} (h : e.orphaned = true) : (e.purged i).orphaned = true := by
  unfold ListEntry.purged
  split
  · rfl
  · exact h

theorem State.purge_list (i : Station) (s : State) :
    (s.purge i).inbound.list =
      (s.inbound.list.filter fun e => decide (e.source ≠ i) || e.state == .executing).map (ListEntry.purged i) := rfl

theorem State.mem_purge {i : Station} {s : State} {e : ListEntry} :
    e ∈ (s.purge i).inbound.list ↔ ∃ f ∈ s.inbound.list, (f.source = i → f.state = .executing) ∧ f.purged i = e := by
  simp only [State.purge_list, List.mem_map, List.mem_filter, Bool.or_eq_true, decide_eq_true_eq, beq_iff_eq, ne_eq,
    and_assoc, imp_iff_not_or]

theorem Inbound.sound.purge {s : State} (h : s.inbound.sound) (i : Station) : (s.purge i).inbound.sound := by
  refine ⟨?_, fun e he ho => ?_, ?_, fun j t b => ?_⟩
  · rw [State.purge_list, List.countP_map]
    simp only [Function.comp_def, ListEntry.purged_state]
    exact List.filter_sublist.countP_le.trans h.1
  · obtain ⟨f, hf, hx, rfl⟩ := State.mem_purge.mp he
    rw [ListEntry.purged_state]
    by_cases hs : f.source = i
    · exact hx hs
    · exact h.orphan_executing hf (ListEntry.purged_other hs ▸ ho)
  · rw [State.purge_list, List.pairwise_map]
    refine (h.2.2.1.sublist List.filter_sublist).imp fun {e f} hr => ?_
    unfold ListEntry.purged
    split <;> split <;> simp_all
  · have hfilter : (s.purge i).inbound.filter[j][t] =
        if i = j then { issue := false, state := .vacant } else s.inbound.filter[j][t] := by
      simp only [State.purge, Fin.getElem_fin, Vector.getElem_set, Fin.val_inj]
      split <;> simp
    rw [hfilter]
    by_cases hj : i = j
    · subst hj
      refine ⟨by simp, fun ⟨e, he, ho, hs, _⟩ => ?_⟩
      obtain ⟨f, _, _, rfl⟩ := State.mem_purge.mp he
      by_cases hfs : f.source = i
      · rw [ListEntry.purged_same hfs] at ho
        cases ho
      · rw [ListEntry.purged_other hfs] at hs
        exact absurd hs hfs
    · rw [if_neg hj, h.opened_iff]
      constructor
      · rintro ⟨e, he, ho, rfl, hk⟩
        exact ⟨e, State.mem_purge.mpr ⟨e, he, fun hs => absurd hs.symm hj, ListEntry.purged_other (Ne.symm hj)⟩, ho, rfl, hk⟩
      · rintro ⟨e, he, ho, hs, hk⟩
        obtain ⟨f, hf, _, rfl⟩ := State.mem_purge.mp he
        by_cases hfs : f.source = i
        · rw [ListEntry.purged_same hfs] at ho
          cases ho
        · rw [ListEntry.purged_other hfs] at ho hs hk
          exact ⟨f, hf, ho, hs, hk⟩

/-! ## What keeps the agreement and leaves the port alone -/

/-- What the soundness of the Inbound Unit says of the list, the filter and the LEAVE, the Memory Port left out. -/
def State.listSound (s : State) : Prop := s.inbound.sound ∧ s.leaveSound

/-- None but orphans are EXECUTING (R39). -/
def State.onlyOrphansExecute (s : State) : Prop := ∀ e ∈ s.inbound.list, e.state = .executing → e.orphaned = true

/-- A change that leaves the Memory Port alone, loses no EXECUTING entry, takes no orphan back, and keeps list, filter and LEAVE
sound: it keeps the Inbound Unit sound whatever the port holds. -/
def Keeps (s t : State) : Prop :=
  t.port = s.port ∧ (s.executing.isSome = true → t.executing.isSome = true) ∧
    (s.onlyOrphansExecute → t.onlyOrphansExecute) ∧ (s.listSound → t.listSound)

namespace Keeps

variable {s t u : State}

theorem refl (s : State) : Keeps s s := ⟨rfl, id, id, id⟩

theorem trans (h : Keeps s t) (k : Keeps t u) : Keeps s u :=
  ⟨k.1.trans h.1, k.2.1 ∘ h.2.1, k.2.2.1 ∘ h.2.2.1, k.2.2.2 ∘ h.2.2.2⟩

theorem port (h : Keeps s t) : t.port = s.port := h.1

theorem executing (h : Keeps s t) (hx : s.executing.isSome = true) : t.executing.isSome = true := h.2.1 hx

theorem listSound (h : Keeps s t) (hs : s.listSound) : t.listSound := h.2.2.2 hs

theorem engineSound (h : Keeps s t) (hs : s.engineSound) : t.engineSound := by
  obtain ⟨hp, hx, ho, -⟩ := h
  obtain ⟨h1, h2, h3, h4, h5⟩ := hs
  unfold State.engineSound
  rw [hp]
  exact ⟨hx ∘ h1, fun c hc hr hd => hx (h2 c hc hr hd), fun c hc hd => hx (h3 c hc hd),
    fun c hc hd hm => (h4 c hc hd hm).imp_left ho, h5⟩

theorem inboundSound (h : Keeps s t) (hs : s.inboundSound) : t.inboundSound := by
  obtain ⟨hi, he, hl⟩ := hs
  obtain ⟨hi', hl'⟩ := h.listSound ⟨hi, hl⟩
  exact ⟨hi', h.engineSound he, hl'⟩

/-- A choice between two states. -/
theorem either {c : Prop} [Decidable c] (h : Keeps s t) (k : Keeps s u) : Keeps s (if c then t else u) := by
  split <;> assumption

end Keeps

theorem State.executing_isSome {s : State} :
    s.executing.isSome = true ↔ ∃ e ∈ s.inbound.list, e.state = .executing := by
  simp [State.executing]

theorem State.leaveSound.withInbound {s : State} (h : s.leaveSound) {u : Inbound}
    (ho : (∀ e ∈ s.inbound.list, e.orphaned = true) → ∀ e ∈ u.list, e.orphaned = true)
    (he : s.inbound.list = [] → u.list = []) : ({ s with inbound := u } : State).leaveSound := by
  obtain ⟨h1, h2, h3⟩ := h
  exact ⟨fun hp => ho (h1 hp), fun hv => (h2 hv).imp_right he, h3⟩

/-- In ONLINE no LEAVE is pending, and any entry may stand in the list. -/
theorem State.leaveSound.online {s : State} (h : s.leaveSound) (hl : s.membership.link = .online) (u : Inbound) :
    ({ s with inbound := u } : State).leaveSound := by
  obtain ⟨-, h2, h3⟩ := h
  refine ⟨fun hp => ?_, fun hv => ?_, h3⟩
  · simp [State.takesPart, hl] at hp
  · exact absurd (hl.symm.trans (h2 hv).1) (by decide)

section Changes

variable (s : State)

/-- Another medium, on which the own LEAVE is only if it was before or is pending. -/
theorem State.withLink_keeps {u : LinkUnit}
    (h : ∀ f, u.phase = .own { owner := .leave, frame := f } → s.link.phase = u.phase ∨ s.membership.leavePending = true) :
    Keeps s { s with link := u } :=
  ⟨rfl, id, id, fun ⟨hi, h1, h2, h3⟩ => ⟨hi, h1, h2, fun f hf => (h f hf).elim (fun hp => h3 f (hp.trans hf)) id⟩⟩

/-- Entries change in what neither the filter nor the engine reads. -/
theorem State.mapList_keeps {f : ListEntry → ListEntry} (hk : ∀ e, (f e).key = e.key)
    (hs : ∀ e, (f e).state = .executing ↔ e.state = .executing) (order : List (Station × Tag)) :
    Keeps s (s.withList (s.inbound.list.map f) order) := by
  have ho : ∀ e, (f e).orphaned = e.orphaned := fun e => congrArg (·.2.2.2) (hk e)
  refine ⟨rfl, fun hx => ?_, fun hx e he hes => ?_, fun ⟨hi, hv⟩ => ⟨?_, hv.withInbound (fun h e he => ?_) fun h => ?_⟩⟩
  · obtain ⟨e, he, hes⟩ := State.executing_isSome.mp hx
    exact State.executing_isSome.mpr ⟨f e, List.mem_map_of_mem he, (hs e).mpr hes⟩
  · obtain ⟨g, hg, rfl⟩ := List.mem_map.mp he
    rw [ho]
    exact hx g hg ((hs g).mp hes)
  · refine hi.relist ?_ ?_ (fun e he hoe => ?_) order s.inbound.enable
    · rw [List.map_map]
      exact List.map_congr_left fun e _ => hk e
    · rw [List.countP_map]
      exact (List.countP_congr fun e _ => by simp [hs e]).trans_le hi.1
    · obtain ⟨g, hg, rfl⟩ := List.mem_map.mp he
      exact (hs g).mpr (hi.orphan_executing hg (ho g ▸ hoe))
  · obtain ⟨g, hg, rfl⟩ := List.mem_map.mp he
    rw [ho]
    exact h g hg
  · exact List.map_eq_nil_iff.mpr h

/-! ### Operations that all blocks share -/

theorem State.hear_keeps (i : Station) : Keeps s (s.hear i) := by
  obtain ⟨r, q, e⟩ := s.hear_touches i
  rw [e]
  exact .refl s

theorem State.hearLeave_keeps (i : Station) : Keeps s (s.hearLeave i) := by
  obtain ⟨r, q, e⟩ := s.hearLeave_touches i
  rw [e]
  exact .refl s

theorem State.checkDrain_keeps : Keeps s s.checkDrain := by
  unfold State.checkDrain
  split
  · rename_i hd
    obtain ⟨hl, hd⟩ := hd
    have he : s.inbound.list = [] := by
      simp only [State.drained, Bool.and_eq_true, List.isEmpty_iff] at hd
      exact hd.2
    exact ⟨rfl, id, id, fun ⟨hi, h1, _, _⟩ => ⟨hi, h1, fun _ => ⟨hl, he⟩, fun _ _ => rfl⟩⟩
  · exact .refl s

theorem State.purge_keeps (i : Station) : Keeps s (s.purge i) := by
  refine ⟨rfl, fun hx => ?_, fun hx e he hes => ?_, fun ⟨hi, hv⟩ => ⟨hi.purge i, hv.withInbound (fun h e he => ?_) fun h => ?_⟩⟩
  · obtain ⟨e, he, hes⟩ := State.executing_isSome.mp hx
    exact State.executing_isSome.mpr
      ⟨e.purged i, State.mem_purge.mpr ⟨e, he, fun _ => hes, rfl⟩, (e.purged_state i).trans hes⟩
  · obtain ⟨f, hf, -, rfl⟩ := State.mem_purge.mp he
    exact f.purged_orphaned (hx f hf (f.purged_state i ▸ hes))
  · obtain ⟨f, hf, -, rfl⟩ := State.mem_purge.mp he
    exact f.purged_orphaned (h f hf)
  · show (s.purge i).inbound.list = []
    rw [State.purge_list, h]
    rfl

/-! ### Ends of transactions and attempts -/

theorem State.deliver_keeps (o : Origin) (st : Status) (data : List Word) : Keeps s (s.deliver o st data) := by
  obtain ⟨_, _, _, _, e, -⟩ := s.deliver_touches o st data
  rw [e]
  exact .refl s

theorem State.endEntry_keeps (t : Tag) (st : Status) (data : List Word) : Keeps s (s.endEntry t st data) := by
  obtain ⟨_, _, _, _, _, e, -⟩ := s.endEntry_touches t st data
  rw [e]
  exact .refl s

theorem State.afterAttempt_keeps (t : Tag) (code : AckCode) : Keeps s (s.afterAttempt t code) := by
  obtain ⟨_, _, _, _, _, _, e, -⟩ := s.afterAttempt_touches t code
  rw [e]
  exact .refl s

theorem matchResponse_keeps (i : Station) (t : Tag) (b : Bool) (st : WireStatus) (data : List Word) :
    Keeps s (matchResponse i t b st data s).2 := by
  obtain ⟨_, _, _, _, _, e, -⟩ := matchResponse_touches s i t b st data
  rw [e]
  exact .refl s

/-! ### The accept decision and presentations -/

theorem State.enlist_keeps {s : State} {i : Station} {t : Tag} (hf : (s.filterAt i t).state ≠ .opened)
    (hl : s.membership.link = .online) (b : Bool) (o : Offer) : Keeps s (s.enlist i t b o) := by
  cases o with
  | request page offset body =>
    refine ⟨rfl, fun hx => ?_, fun hx e he hes => ?_, fun ⟨hi, hv⟩ => ⟨hi.accept rfl rfl hf, hv.online hl _⟩⟩
    · obtain ⟨e, he, hes⟩ := State.executing_isSome.mp hx
      exact State.executing_isSome.mpr ⟨e, List.mem_append_left _ he, hes⟩
    · rcases List.mem_append.mp he with he | he
      · exact hx e he hes
      · rw [List.mem_singleton.mp he] at hes
        cases hes
  | signal v => exact ⟨rfl, id, id, fun ⟨hi, hv⟩ => ⟨hi.acceptClosed hf b, hv.online hl _⟩⟩

theorem acceptDecision_keeps {s : State} (h : s.takesPart = true) (i : Station) (t : Tag) (b : Bool) (o : Offer) :
    Keeps s (acceptDecision i t b o s).2 := by
  unfold acceptDecision
  simp only
  split
  · exact .refl s
  split
  · cases o <;> exact .refl s
  split
  · exact .refl s
  split
  · exact .refl s
  · rename_i hd hf
    have hl : s.membership.link = .online := by
      simp only [State.takesPart, Bool.or_eq_true, beq_iff_eq] at h
      exact h.resolve_right fun hl => hd (.inr hl)
    exact State.enlist_keeps (fun ho => hf (.inr ho)) hl b o

theorem State.loopbackAnswer_keeps (t : Tag) (e : TransEntry) : Keeps s (s.loopbackAnswer t e).2 := by
  unfold State.loopbackAnswer
  split
  · split
    · exact acceptDecision_keeps ‹_› _ _ _ _
    · exact .refl s
  · exact .refl s

theorem State.presentLoopback_keeps (t : Tag) : Keeps s (s.presentLoopback t) := by
  unfold State.presentLoopback
  split
  · exact .refl s
  · rename_i e _
    have h : Keeps s (s.setEntry t { e with state := .onAir }) := .refl s
    exact (h.trans (State.loopbackAnswer_keeps _ t e)).trans (State.afterAttempt_keeps _ t _)

theorem State.take_keeps (o : Origin) : Keeps s (s.take o) := by
  cases o with
  | apertureRead =>
    simp only [State.take]
    split <;> exact .refl s
  | posted p => exact .refl s
  | slot k => exact .refl s

theorem State.allocate_keeps (o : Origin) (target : Station) (body : TransBody) : Keeps s (s.allocate o target body) := by
  unfold State.allocate
  split
  · exact .refl s
  · have h (ob : Outbound) : Keeps s { s.take o with outbound := ob } := s.take_keeps o
    exact .either ((h _).trans (State.presentLoopback_keeps _ _)) (h _)

/-- A presentation (R58 to R61). -/
theorem State.present_keeps (o : Origin) (target : Station) (body : TransBody) : Keeps s (s.present o target body) := by
  unfold State.present
  split
  · exact s.deliver_keeps o _ _
  · exact s.allocate_keeps o target body

theorem State.presentSlot_keeps (k : SlotNo) : Keeps s (s.presentSlot k) := by
  unfold State.presentSlot
  split
  · exact s.present_keeps _ _ _
  · exact .refl s

theorem State.presentLoad_keeps : Keeps s s.presentLoad := by
  unfold State.presentLoad
  split
  · exact .either (s.present_keeps _ _ _) (.refl s)
  · exact .refl s

theorem State.appendPosted_keeps (st : HeldStore) : Keeps s (s.appendPosted st) := by
  have h (es : List PostedEntry) : Keeps s { s with aperture := { s.aperture with posted := es } } := .refl s
  exact .either ((h _).trans (State.present_keeps _ _ _ _)) (h _)

theorem State.placeStore_keeps (st : HeldStore) : Keeps s (s.placeStore st) := by
  unfold State.placeStore
  split
  · exact .refl s
  · exact .either (State.appendPosted_keeps (s.releaseHost .done) st) (.refl s)

theorem State.endHeldStore_keeps : Keeps s s.endHeldStore := by
  unfold State.endHeldStore
  split
  · exact .either (.refl s) (.either (s.placeStore_keeps _) (.refl s))
  · exact .refl s

/-- One follow-on of a removal (R127). -/
theorem State.followOnce_keeps {s t : State} (h : s.followOnce = some t) : Keeps s t := by
  unfold State.followOnce at h
  split at h
  · cases h
    exact s.present_keeps _ _ _
  split at h
  · cases h
    exact s.endHeldStore_keeps
  split at h
  · cases h
    exact s.presentLoad_keeps
  split at h
  · cases h
    exact s.presentSlot_keeps _
  split at h
  · cases h
    exact .refl s
  · cases h

theorem State.followOns_keeps (n : Nat) : Keeps s (s.followOns n) := by
  induction n generalizing s with
  | zero => exact .refl s
  | succ n ih =>
    unfold State.followOns
    split
    · exact (State.followOnce_keeps ‹_›).trans (ih _)
    · exact .refl s

/-- What the end of a transaction brings about (R109, R127). -/
theorem State.followThrough_keeps : Keeps s s.followThrough := (s.followOns_keeps _).trans (State.checkDrain_keeps _)

theorem State.presentPlace_keeps (p : Place) : Keeps s (s.presentPlace p) := by
  unfold State.presentPlace
  split
  · rename_i e _
    have h : Keeps s (s.presentPosted e) := s.present_keeps _ _ _
    exact .either (.either (h.trans (State.followThrough_keeps _)) h) (.refl s)
  · exact .refl s

end Changes

section LinkOps

variable (s : State)

/-! ### The link state -/

/-- A change of the link state from any but DRAINING, in which no LEAVE is pending, keeps what the list holds if the station
takes part from then on wherever it did before. -/
theorem State.setLink_keeps {l : LinkState} (hd : s.membership.link ≠ .draining)
    (hp : s.takesPart = true → l = .online ∨ l = .draining) : Keeps s (s.setLink l) := by
  obtain ⟨b, e⟩ := s.setLink_touches l
  rw [e]
  refine ⟨rfl, id, id, fun ⟨hi, h1, h2, h3⟩ => ⟨hi, fun ht => h1 ?_, fun hv => absurd (h2 hv).1 hd, h3⟩⟩
  refine Bool.eq_false_iff.mpr fun hs => ?_
  rcases hp hs with rfl | rfl <;> simp [State.takesPart] at ht

/-- OFFLINE is reached by leave with none but orphans in the list (R38, R107, R110). -/
theorem State.offlineByLeave_keeps (ho : s.leaveSound → ∀ e ∈ s.inbound.list, e.orphaned = true) :
    Keeps s s.offlineByLeave := by
  obtain ⟨b, e⟩ := s.setLink_touches .offline
  unfold State.offlineByLeave
  rw [e]
  refine ⟨rfl, id, id, fun ⟨hi, hv⟩ => ⟨?_, fun _ => ho hv, nofun, nofun⟩⟩
  exact Inbound.sound_of_orphans hi.1 (fun e he => hi.orphan_executing he (ho hv e he)) (ho hv) rfl

theorem State.leaveLink_keeps : Keeps s s.leaveLink := by
  have outside (h : s.takesPart = false) : Keeps s s.offlineByLeave := s.offlineByLeave_keeps fun hv => hv.1 h
  unfold State.leaveLink
  split
  · exact .refl s
  · exact .refl s
  · exact outside (by simp [State.takesPart, *])
  · exact outside (by simp [State.takesPart, *])
  · exact outside (by simp [State.takesPart, *])
  · exact (s.setLink_keeps (by simp [*]) fun _ => .inr rfl).trans (State.checkDrain_keeps _)

theorem State.joinLink_keeps {s : State} (h : s.membership.link = .offline) (stn : Station) (rate : BitVec 2) :
    Keeps s (s.joinLink stn rate) := by
  have hj : Keeps s (s.setLink .listening) :=
    s.setLink_keeps (by simp [h]) fun ht => absurd ht (by simp [State.takesPart, h])
  have hs : Keeps (s.setLink .listening) { s.setLink .listening with
      link := { (s.setLink .listening).link with attached := true, phase := .sync 0, idleLength := 0, spent := false } } :=
    State.withLink_keeps _ nofun
  exact hj.trans hs

theorem State.joinOrLeave_keeps (stn : Station) (rate : BitVec 2) (b : Bool) : Keeps s (s.joinOrLeave stn rate b) := by
  unfold State.joinOrLeave
  split
  · exact State.joinLink_keeps ‹_› stn rate
  · exact .either s.leaveLink_keeps (.refl s)

/-! ### Replies -/

/-- A reply entry changes its state to another that is not EXECUTING. -/
theorem State.updateReply_keeps (i : Station) (t : Tag) {st : ListState} {f : ListEntry → ListEntry}
    (hst : st ≠ .executing) (hk : ∀ e, (f e).key = e.key) (hf : ∀ e, (f e).state ≠ .executing) :
    Keeps s (s.updateReply i t st f) := by
  refine s.mapList_keeps (fun e => ?_) (fun e => ?_) s.inbound.replyOrder
  · split
    · exact hk e
    · rfl
  · split
    · rename_i h
      simp [hf e, h.2.2, hst]
    · rfl

theorem State.replyOnAir_spec {s : State} {i : Station} {t : Tag} {e : ListEntry} (h : s.replyOnAir i t = some e) :
    e ∈ s.inbound.list ∧ e.source = i ∧ e.tag = t ∧ e.state = .replyOnAir := by
  have hp := List.find?_some h
  simp only [Bool.and_eq_true, decide_eq_true_eq, beq_iff_eq] at hp
  exact ⟨List.mem_of_find?_eq_some h, hp.1.1, hp.1.2, hp.2⟩

theorem State.closeFilter_opened {s : State} {i : Station} {t : Tag} {b : Bool}
    (h : s.filterAt i t = { issue := b, state := .opened }) :
    s.closeFilter i t b = s.setFilter i t { issue := b, state := .closed } := if_pos h

/-- Entries go out of the list; the reply order is kept. -/
def State.filterList (p : ListEntry → Bool) (s : State) : State := s.withList (s.inbound.list.filter p) s.inbound.replyOrder

theorem State.leaveSound.filterList {s : State} (h : s.leaveSound) (p : ListEntry → Bool) : (s.filterList p).leaveSound :=
  h.withInbound (fun ho e he => ho e (List.mem_filter.mp he).1) fun he => by
    show s.inbound.list.filter p = []
    rw [he]
    rfl

/-- An entry that is not orphaned leaves the list and its record is closed (R32, R33, R35). -/
theorem State.listSound.removeClosing {s : State} (h : s.listSound) {e : ListEntry} (he : e ∈ s.inbound.list)
    (ho : e.orphaned = false) {p : ListEntry → Bool} (hpe : p e = false)
    (hp : ∀ f ∈ s.inbound.list, p f = false → f.orphaned = false ∧ f.source = e.source ∧ f.tag = e.tag) :
    ((s.filterList p).closeFilter e.source e.tag e.issue).listSound := by
  have hf : (s.filterList p).filterAt e.source e.tag = { issue := e.issue, state := .opened } :=
    (h.1.opened_iff e.source e.tag e.issue).mpr ⟨e, he, ho, rfl, rfl, rfl⟩
  rw [State.closeFilter_opened hf]
  exact ⟨h.1.removeClosing he ho hpe hp, h.2.filterList p⟩

theorem State.closeFilter_keeps_list (i : Station) (t : Tag) (b : Bool) :
    (s.closeFilter i t b).inbound.list = s.inbound.list ∧ (s.closeFilter i t b).port = s.port := by
  obtain ⟨f, e⟩ := s.closeFilter_touches i t b
  rw [e]
  exact ⟨rfl, rfl⟩

theorem State.removeReply_keeps (i : Station) (t : Tag) : Keeps s (s.removeReply i t) := by
  unfold State.removeReply
  split
  · exact .refl s
  · rename_i e he
    obtain ⟨hm, rfl, rfl, hs⟩ := State.replyOnAir_spec he
    let p (f : ListEntry) : Bool := !(decide (f.source = e.source) && decide (f.tag = e.tag) && f.state == .replyOnAir)
    have hp : ∀ f, p f = false ↔ f.source = e.source ∧ f.tag = e.tag ∧ f.state = .replyOnAir := fun f => by
      simp [p, and_assoc]
    have hx : ∀ f ∈ s.inbound.list, f.state = .executing → f ∈ s.inbound.list.filter p := fun f hf hfs => by
      refine List.mem_filter.mpr ⟨hf, ?_⟩
      by_contra hpf
      simp [((hp f).mp (by simpa using hpf)).2.2] at hfs
    obtain ⟨hl, hport⟩ := (s.filterList p).closeFilter_keeps_list e.source e.tag e.issue
    refine Keeps.trans (t := (s.filterList p).closeFilter e.source e.tag e.issue) ⟨hport, fun h => ?_, fun h f hf => ?_,
      fun h => h.removeClosing hm (h.1.not_orphaned hm (by simp [hs])) ((hp e).mpr ⟨rfl, rfl, hs⟩) fun f hf hpf => ?_⟩
      (State.checkDrain_keeps _)
    · obtain ⟨f, hf, hfs⟩ := State.executing_isSome.mp h
      exact State.executing_isSome.mpr ⟨f, by rw [hl]; exact hx f hf hfs, hfs⟩
    · rw [hl] at hf
      exact h f (List.mem_filter.mp hf).1
    · obtain ⟨h1, h2, h3⟩ := (hp f).mp hpf
      exact ⟨h.1.not_orphaned hf (by simp [h3]), h1, h2⟩

theorem State.failReply_keeps (i : Station) (t : Tag) : Keeps s (s.failReply i t) := by
  unfold State.failReply
  split
  · exact .refl s
  · exact .either (s.updateReply_keeps i t nofun (fun _ => rfl) (fun _ => nofun)) (s.removeReply_keeps i t)

/-! ### The own frame -/

theorem State.setTransState_keeps (t : Tag) (st : TransState) : Keeps s (s.setTransState t st) := by
  unfold State.setTransState
  split <;> exact .refl s

theorem State.goOnAir_keeps (o : TxOwner) : Keeps s (s.goOnAir o) := by
  cases o with
  | reply i t => exact s.updateReply_keeps i t (st := .replyReady) nofun (fun _ => rfl) fun _ => nofun
  | transaction t => exact s.setTransState_keeps t .onAir
  | announce => exact .refl s
  | leave => exact .refl s

/-- The LEAVE is offered only while it is pending (R90, R109). -/
theorem State.offered_leave {s : State} {tx : Transmission} (h : s.offered = some tx) (ho : tx.owner = .leave) :
    s.membership.leavePending = true := by
  have pending {tx : Transmission} (h : s.pendingMembership = some tx) (ho : tx.owner = .leave) :
      s.membership.leavePending = true := by
    unfold State.pendingMembership at h
    split_ifs at h with ha hl
    · cases h
      cases ho
    · exact hl
  unfold State.offered at h
  split at h
  case h_1 | h_2 =>
    split at h
    · cases h
      cases ho
    split at h
    · cases h
      exact pending ‹_› ho
    · obtain ⟨r, -, rfl⟩ := Option.map_eq_some_iff.mp h
      cases ho
  case h_3 => exact pending h ho
  case h_4 => cases h

theorem State.transmit_keeps : Keeps s s.transmit := by
  unfold State.transmit
  split
  · have hi : Keeps s { s with link := s.link.idleFor Config.interFrameGap } := s.withLink_keeps nofun
    simp only
    split
    · rename_i tx ht
      refine (hi.trans (State.goOnAir_keeps _ tx.owner)).trans (State.withLink_keeps _ fun f hf => .inr ?_)
      have ho : tx.owner = .leave := congrArg Transmission.owner (MediumPhase.own.inj hf)
      rw [ho]
      exact State.offered_leave ht ho
    · exact hi
  · exact .refl s

theorem State.becomeListener_keeps : Keeps s s.becomeListener := s.withLink_keeps nofun

theorem State.handBack_keeps (o : TxOwner) : Keeps s (s.handBack o) := by
  cases o with
  | reply i t => exact s.updateReply_keeps i t (st := .replyOnAir) nofun (fun _ => rfl) fun _ => nofun
  | transaction t =>
    simp only [State.handBack]
    split
    · exact .refl s
    · exact .either ((s.endEntry_keeps t _ _).trans (State.followThrough_keeps _)) (.refl s)
  | announce => exact .refl s
  | leave => exact .refl s

theorem State.abortFrame_keeps (o : TxOwner) : Keeps s (s.abortFrame o) := by
  cases o with
  | reply i t => exact s.failReply_keeps i t
  | transaction t => exact (s.afterAttempt_keeps t _).trans (State.followThrough_keeps _)
  | announce => exact .refl s
  | leave => exact .refl s

theorem State.hearAnswer_keeps (i : Station) (code : AckCode) : Keeps s (s.hearAnswer i code) :=
  .either (.refl s) (s.hear_keeps i)

theorem State.afterSlot_keeps (b : Bool) : Keeps s (s.afterSlot b) := s.withLink_keeps nofun

theorem State.requestAnswered_keeps (t : Tag) (i : Station) (code : AckCode) : Keeps s (s.requestAnswered t i code) :=
  (((s.afterSlot_keeps true).trans (State.hearAnswer_keeps _ i code)).trans (State.afterAttempt_keeps _ t code)).trans
    (State.followThrough_keeps _)

theorem State.replyAnswered_keeps (i : Station) (t : Tag) (code : AckCode) : Keeps s (s.replyAnswered i t code) := by
  have h : Keeps s ((s.afterSlot false).hearAnswer i code) := (s.afterSlot_keeps false).trans (State.hearAnswer_keeps _ i code)
  cases code with
  | accept => exact h.trans (State.removeReply_keeps _ i t)
  | stale => exact h.trans (State.removeReply_keeps _ i t)
  | busy => exact h.trans (State.failReply_keeps _ i t)
  | refuse => exact h.trans (State.failReply_keeps _ i t)
  | nothing => exact h.trans (State.failReply_keeps _ i t)

theorem State.afterDelimiter_keeps : Keeps s s.afterDelimiter := s.withLink_keeps nofun

theorem State.announced_keeps : Keeps s s.announced := by
  unfold State.announced
  simp only
  split
  · rename_i hl
    have hl : s.membership.link = .announcing := hl
    have ha : Keeps s { s.afterDelimiter with
        membership := { s.afterDelimiter.membership with announcePending := false } } := s.afterDelimiter_keeps
    exact ha.trans (State.setLink_keeps _ (by simp [hl]) fun _ => .inl rfl)
  · exact s.afterDelimiter_keeps

/-- The LEAVE that went out was pending over an empty list (R109). -/
theorem State.left_keeps {s : State} {f : RawFrame} (h : s.link.phase = .own { owner := .leave, frame := f }) :
    Keeps s s.left := by
  refine .either (s.offlineByLeave_keeps fun ⟨_, h2, h3⟩ e he => ?_) s.afterDelimiter_keeps
  rw [(h2 (h3 f h)).2] at he
  cases he

/-! ### Intervals and the medium -/

theorem State.endBackoff_keeps (t : Tag) : Keeps s (s.endBackoff t) := by
  unfold State.endBackoff
  split
  · exact .either (.refl s) (.refl s)
  · exact .refl s

theorem State.endLoopbackBackoff_keeps (t : Tag) : Keeps s (s.endLoopbackBackoff t) := by
  unfold State.endLoopbackBackoff
  split
  · exact .either ((s.presentLoopback_keeps t).trans (State.followThrough_keeps _)) (.refl s)
  · exact .refl s

theorem State.endReplyBackoff_keeps (i : Station) (t : Tag) : Keeps s (s.endReplyBackoff i t) := by
  unfold State.endReplyBackoff
  split
  · rename_i e he
    have hs : e.state ≠ .executing := fun hx => by
      have := List.find?_some he
      simp [hx, ListState.isBackoff] at this
    exact s.updateReply_keeps i t hs (fun _ => rfl) fun _ => nofun
  · exact .refl s

theorem State.timeOut_keeps (t : Tag) : Keeps s (s.timeOut t) := by
  unfold State.timeOut
  split
  · exact .either ((s.endEntry_keeps t _ _).trans (State.followThrough_keeps _)) (.refl s)
  · exact .refl s

theorem State.endRound_keeps : Keeps s s.endRound := .either (s.withLink_keeps nofun) (.refl s)

theorem State.endListen_keeps : Keeps s s.endListen := by
  unfold State.endListen
  split
  · rename_i h
    have hl : Keeps s (s.setLink .announcing) :=
      s.setLink_keeps (by simp [h.1]) fun ht => absurd ht (by simp [State.takesPart, h.1])
    exact hl.trans (State.withLink_keeps _ (u := s.link.idleFor Config.joinListen) nofun)
  · exact .refl s

theorem State.endSync_keeps : Keeps s s.endSync := by
  unfold State.endSync
  split
  · exact s.withLink_keeps nofun
  · exact .refl s

theorem State.strayBit_keeps : Keeps s s.strayBit := by
  unfold State.strayBit
  split
  · exact s.withLink_keeps nofun
  · exact .either (s.withLink_keeps nofun) (.refl s)

theorem State.startSeen_keeps : Keeps s s.startSeen := .either (s.withLink_keeps nofun) (.refl s)

theorem State.dropFrame_keeps (n : Nat) : Keeps s (s.dropFrame n) := by
  refine .either (s.withLink_keeps fun f hf => ?_) (.refl s)
  simp only [LinkUnit.giveUpFrame] at hf
  split at hf <;> cases hf

theorem State.endSlotAfterReset_keeps : Keeps s s.endSlotAfterReset := by
  unfold State.endSlotAfterReset
  split
  · exact .refl s
  · exact .either (s.withLink_keeps nofun) (.refl s)

/-- A bit time starts no frame of the station (R79). -/
theorem LinkUnit.tick_own {u : LinkUnit} {tx : Transmission} (h : u.tick.phase = .own tx) : u.phase = .own tx := by
  unfold LinkUnit.tick at h
  split at h
  · rename_i hp
    rw [hp] at h
    cases h
  · cases h
  · cases h
  · split at h <;> cases h
  · exact h
  · exact h

theorem State.tick_keeps : Keeps s s.tick := by
  unfold State.tick
  split
  · exact .refl s
  · have hlist := s.mapList_keeps (f := fun e => { e with state := e.state.tick }) (fun _ => rfl)
      (fun e => by cases h : e.state <;> simp [ListState.tick]) s.inbound.replyOrder
    have hown (f : RawFrame) (hf : (if s.follows then s.link.tick else s.link).phase = .own { owner := .leave, frame := f }) :
        s.link.phase = .own { owner := .leave, frame := f } := by
      split at hf
      · exact LinkUnit.tick_own hf
      · exact hf
    have hlink := State.withLink_keeps
      (s.withList (s.inbound.list.map fun e => { e with state := e.state.tick }) s.inbound.replyOrder)
      (u := (if s.follows then s.link.tick else s.link).tickSlot) fun f hf => .inl ((hown f hf).trans hf.symm)
    exact hlist.trans hlink

/-! ### Frames heard -/

theorem State.drive_keeps (code : AckCode) : Keeps s (s.drive code) := .refl s

theorem State.decideOffer_keeps (i : Station) (t : Tag) (b : Bool) (o : Offer) : Keeps s (s.decideOffer i t b o) := by
  unfold State.decideOffer
  simp only
  split
  · exact ((s.hear_keeps i).trans (acceptDecision_keeps ‹_› i t b o)).trans (State.drive_keeps _ _)
  · exact s.hear_keeps i

theorem State.answer_keeps (i : Station) (t : Tag) (b : Bool) (st : WireStatus) (data : List Word) :
    Keeps s (s.answer i t b st data) := by
  have h := (s.hear_keeps i).trans (matchResponse_keeps _ i t b st data)
  exact .either ((h.trans (State.drive_keeps _ _)).trans (State.followThrough_keeps _)) (s.hear_keeps i)

end LinkOps

/-! ## The Inbound Engine (chapter 2) -/

section Engine

variable {s : State}

theorem State.executing_spec {e : ListEntry} (h : s.executing = some e) : e ∈ s.inbound.list ∧ e.state = .executing :=
  ⟨List.mem_of_find?_eq_some h, by simpa using List.find?_some h⟩

/-- A reply of another station keeps its place in the list; the entry is no longer EXECUTING (R30). -/
theorem State.listSound.reply (h : s.listSound) {e : ListEntry} (he : s.executing = some e) (ho : e.orphaned = false)
    (st : WireStatus) (data : List Word) (order : List (Station × Tag)) :
    ({ s.updateExecuting (fun e => { e with state := .replyReady, status := some st, data := data }) with
      inbound := { (s.updateExecuting fun e => { e with state := .replyReady, status := some st, data := data }).inbound with
        replyOrder := order } } : State).listSound := by
  obtain ⟨hi, hv⟩ := h
  obtain ⟨hm, hs⟩ := State.executing_spec he
  let f (e : ListEntry) : ListEntry :=
    if e.state = .executing then { e with state := .replyReady, status := some st, data := data } else e
  have hkey : ∀ e, (f e).key = e.key := fun e => by unfold f; split <;> rfl
  have hx : ∀ e, (f e).state ≠ .executing := fun e => by unfold f; split <;> simp_all
  have ho' : ∀ e ∈ s.inbound.list, e.orphaned = false := fun g hg => Bool.eq_false_iff.mpr fun hgo => by
    rw [hi.executing_unique hm hg hs (hi.orphan_executing hg hgo), hgo] at ho
    cases ho
  have horph : ∀ e, (f e).orphaned = e.orphaned := fun e => congrArg (·.2.2.2) (hkey e)
  refine ⟨hi.relist (l := s.inbound.list.map f) ?_ ?_ ?_ order s.inbound.enable,
    hv.withInbound (fun h => absurd (h e hm) (by simp [ho])) fun h => ?_⟩
  · rw [List.map_map]
    exact List.map_congr_left fun e _ => hkey e
  · rw [List.countP_map, List.countP_eq_zero.mpr fun e _ => by simp [hx e]]
    exact Nat.zero_le 1
  · intro g hg hgo
    obtain ⟨g', hg', rfl⟩ := List.mem_map.mp hg
    rw [horph, ho' g' hg'] at hgo
    cases hgo
  · rw [h] at hm
    cases hm

/-- The EXECUTING entry leaves the list as an orphan (R37, R39). -/
theorem State.listSound.removeOrphan (h : s.listSound) (ho : s.onlyOrphansExecute) : s.removeExecuting.listSound :=
  ⟨h.1.dropOrphans fun e he hp => ho e he (by simpa using hp), h.2.filterList _⟩

/-- The end of an execution keeps list and filter in agreement (R30, R35, R37). -/
theorem State.listSound.endExecution (h : s.listSound) (st : WireStatus) (data : List Word) :
    (s.endExecution st data).listSound := by
  unfold State.endExecution
  split
  · exact h
  · rename_i e he
    obtain ⟨hm, hs⟩ := State.executing_spec he
    have hev : Keeps s (if st = .ok then s else s.addEvent (.rejected e st)) := .either (.refl s) (.refl s)
    have hlist : (if st = .ok then s else s.addEvent (.rejected e st)).inbound = s.inbound := by split <;> rfl
    have hexec : (if st = .ok then s else s.addEvent (.rejected e st)).executing = some e := by
      rw [State.executing, hlist]
      exact he
    have hu := hev.listSound h
    generalize (if st = .ok then s else s.addEvent (.rejected e st)) = u at hlist hexec hu
    rw [← hlist] at hm
    have hone : ∀ f ∈ u.inbound.list, f.state = .executing → f = e := fun f hf hfs => hu.1.executing_unique hf hm hfs hs
    simp only
    split
    · rename_i ho
      exact (State.checkDrain_keeps _).listSound (hu.removeOrphan fun f hf hfs => by rw [hone f hf hfs, ho])
    · rename_i ho
      have ho := Bool.eq_false_iff.mpr ho
      split
      · have hmr := matchResponse_keeps u e.source e.tag e.issue st data
        obtain ⟨_, _, _, _, _, hin, -⟩ := matchResponse_touches u e.source e.tag e.issue st data
        have hmi : (matchResponse e.source e.tag e.issue st data u).2.inbound = u.inbound := by rw [hin]
        refine (State.followThrough_keeps _).listSound ((hmr.listSound hu).removeClosing (by rw [hmi]; exact hm) ho
          (p := fun e => decide (e.state ≠ .executing)) (by simp [hs]) fun f hf hp => ?_)
        rw [hmi] at hf
        obtain rfl := hone f hf (by simpa using hp)
        exact ⟨ho, rfl, rfl⟩
      · exact hu.reply hexec ho st data _

theorem State.loopbackReply_port (s : State) (e : ListEntry) (st : WireStatus) (data : List Word) :
    (s.loopbackReply e st data).port = s.port := by
  have h := matchResponse_keeps s e.source e.tag e.issue st data
  have hc := ((matchResponse e.source e.tag e.issue st data s).2.removeExecuting).closeFilter_keeps_list e.source e.tag e.issue
  exact ((State.followThrough_keeps _).port.trans hc.2).trans h.port

theorem State.endExecution_port (s : State) (st : WireStatus) (data : List Word) : (s.endExecution st data).port = s.port := by
  unfold State.endExecution
  split
  · rfl
  · rename_i e _
    have hev : (if st = .ok then s else s.addEvent (.rejected e st)).port = s.port := by split <;> rfl
    simp only
    generalize (if st = .ok then s else s.addEvent (.rejected e st)) = u at hev ⊢
    split
    · exact (State.checkDrain_keeps _).port.trans hev
    split
    · exact (u.loopbackReply_port e st data).trans hev
    · exact hev

/-- The local address of the EXECUTING entry, or another part that neither filter nor engine reads. -/
theorem State.updateExecuting_keeps (s : State) {f : ListEntry → ListEntry} (hk : ∀ e, (f e).key = e.key)
    (hs : ∀ e, (f e).state = e.state) : Keeps s (s.updateExecuting f) :=
  s.mapList_keeps (fun e => by split <;> simp [hk]) (fun e => by split <;> simp [hs]) s.inbound.replyOrder

end Engine

/-- What the Inbound Engine does with a lookup, a translation or an outcome: nothing that touches port or EXECUTING entry, the
end of the execution, or a request to the port for the EXECUTING entry. -/
inductive EngineGoesOn (s : State) : State → Prop
  | stays {t : State} (h : Keeps s t) : EngineGoesOn s t
  | ends {u : State} (h : Keeps s u) (st : WireStatus) (data : List Word) : EngineGoesOn s (u.endExecution st data)
  | asks {u : State} (h : Keeps s u) (hx : u.executing.isSome = true) (q : Request) :
      EngineGoesOn s (u.portRequest .engine q)

theorem EngineGoesOn.of_keeps {s t u : State} (h : Keeps s t) (k : EngineGoesOn t u) : EngineGoesOn s u := by
  cases k with
  | stays k => exact .stays (h.trans k)
  | ends k st data => exact .ends (h.trans k) st data
  | asks k hx q => exact .asks (h.trans k) hx q

section EngineGoesOn

variable (s : State)

theorem State.translated_goesOn (m : MapEntry) : EngineGoesOn s (s.translated m) := by
  unfold State.translated
  split
  · exact .stays (.refl s)
  · rename_i e he
    split
    · exact .ends (.refl s) _ _
    · have h : Keeps s (s.updateExecuting fun g => { g with localAddr := some (localAddress m e.offset) }) :=
        s.updateExecuting_keeps (fun _ => rfl) fun _ => rfl
      simp only
      split
      · exact .ends h _ _
      · exact .asks h (h.executing (by rw [he]; rfl)) _

theorem State.lookup_goesOn {s : State} (hx : s.executing.isSome = true) (p : Page) : EngineGoesOn s (s.lookup p) := by
  have hm (m : WindowMap) : Keeps s { s with map := m } := .refl s
  unfold State.lookup
  split
  · exact .of_keeps (hm _) (State.translated_goesOn _ _)
  · exact .asks (hm _) ((hm _).executing hx) _

theorem State.fillEnded_goesOn {s : State} (hx : s.executing.isSome = true) (r : ReadResult) :
    EngineGoesOn s (s.fillEnded r) := by
  have hm (m : WindowMap) : Keeps s { s with map := m } := .refl s
  unfold State.fillEnded
  split
  · exact .stays (.refl s)
  split
  · exact .asks (hm _) ((hm _).executing hx) _
  split
  · exact .of_keeps (hm _) (State.translated_goesOn _ _)
  · exact .ends (hm _) _ _

theorem State.dataEnded_goesOn (r : ReadResult) : EngineGoesOn s (s.dataEnded r) := by
  unfold State.dataEnded
  split
  · exact .ends (.refl s) _ _
  · exact .ends (.refl s) _ _

end EngineGoesOn

/-! ## What the Memory Port holds for the engine (R149, R150) -/

/-- Nothing that the port holds belongs to the EXECUTING entry. -/
def MemoryPort.unclaimed (p : MemoryPort) : Prop :=
  p.engine = none ∧
    (∀ c, p.current = some c → (c.requester = .engine → c.discard ≠ .clear) ∧ c.engineData = false ∧
      (c.requester = .maintenance → c.request.kind.isData = false)) ∧
    ∀ q, p.maintenance = some q → q.kind.isData = false

/-- The waiting places are sound; the cycle in progress is about to give way to one of them (R150). -/
def State.waitingSound (s : State) : Prop :=
  (s.port.engine.isSome = true → s.executing.isSome = true) ∧ ∀ q, s.port.maintenance = some q → q.kind.isData = false

section Port

variable {s t : State}

theorem State.portRequest_listSound (r : Requester) (q : Request) (h : s.listSound) : (s.portRequest r q).listSound := by
  obtain ⟨p, e⟩ := s.portRequest_touches r q
  rw [e]
  exact h

theorem State.portNext_listSound (h : s.listSound) : s.portNext.listSound := by
  obtain ⟨p, e⟩ := s.portNext_touches
  rw [e]
  exact h

theorem EngineGoesOn.listSound (h : EngineGoesOn s t) (hs : s.listSound) : t.listSound := by
  cases h with
  | stays h => exact h.listSound hs
  | ends h st data => exact (h.listSound hs).endExecution st data
  | asks h hx q => exact State.portRequest_listSound _ _ (h.listSound hs)

theorem Request.start_engineData {q : Request} (h : q.kind.isData = false) (r : Requester) (base : BitVec 17) :
    (q.start r base).engineData = false := by
  unfold Cycle.engineData
  rw [Request.start_kind, h]
  rfl

theorem State.engineSound_of_unclaimed (h : s.port.unclaimed) : s.engineSound := by
  obtain ⟨he, hc, hm⟩ := h
  refine ⟨by simp [he], fun c h1 h2 h3 => absurd h3 ((hc c h1).1 h2), fun c h1 h2 => ?_, fun c h1 h2 => ?_,
    by simp [he], fun c h1 => (hc c h1).2.2, hm⟩
  · rw [(hc c h1).2.1] at h2
    cases h2
  · rw [(hc c h1).2.1] at h2
    cases h2

/-- With no entry EXECUTING the port holds nothing of the engine's but what is marked (R149). -/
theorem State.engineSound.unclaimed (h : s.engineSound) (hx : s.executing = none) : s.port.unclaimed := by
  obtain ⟨h1, h2, h3, -, -, h6, h7⟩ := h
  simp only [hx, Option.isSome_none, Bool.false_eq_true] at h1 h2 h3
  exact ⟨by simpa using h1, fun c hc => ⟨h2 c hc, by simpa using h3 c hc, h6 c hc⟩, h7⟩

/-- A request of the EXECUTING entry starts at once, or waits behind a cycle that hands the engine nothing (R150). -/
theorem State.portRequest_engineSound (h : s.port.unclaimed) (hx : s.executing.isSome = true) (q : Request) :
    (s.portRequest .engine q).engineSound := by
  obtain ⟨he, hc, hm⟩ := h
  cases hcur : s.port.current with
  | none =>
    rw [State.portRequest_idle _ _ hcur]
    refine ⟨fun _ => hx, fun c _ _ _ => hx, fun c _ _ => hx, fun c h1 _ h3 => ?_, fun c _ h2 => ?_, fun c h1 h2 => ?_, hm⟩
    · cases h1
      cases h3
    · simp [he] at h2
    · cases h1
      cases h2
  | some c =>
    rw [State.portRequest_busy_engine _ hcur]
    obtain ⟨hd, hdata, hmaint⟩ := hc c hcur
    refine ⟨fun _ => hx, fun _ _ _ _ => hx, fun _ _ _ => hx, fun d h1 h2 _ => ?_, fun d h1 _ => ?_, fun d h1 => ?_, hm⟩
    all_goals
      obtain rfl : c = d := Option.some.inj (hcur.symm.trans h1)
    · rw [hdata] at h2
      cases h2
    · cases hr : c.requester with
      | engine => exact .inr (hd hr)
      | maintenance => exact .inl rfl
    · exact hmaint

theorem EngineGoesOn.engineSound (h : EngineGoesOn s t) (hp : s.port.unclaimed) : t.engineSound := by
  cases h with
  | stays h => exact State.engineSound_of_unclaimed (h.port ▸ hp)
  | ends h st data =>
    refine State.engineSound_of_unclaimed ?_
    rw [State.endExecution_port, h.port]
    exact hp
  | asks h hx q => exact State.portRequest_engineSound (h.port ▸ hp) hx q

/-- With no cycle in progress the waiting places are all that the port holds. -/
theorem State.engineSound_of_idle (hc : s.port.current = none) (h : s.waitingSound) : s.engineSound := by
  obtain ⟨he, hm⟩ := h
  refine ⟨he, ?_, ?_, ?_, ?_, ?_, hm⟩ <;> simp [hc]

/-- The port starts what waits (R150). -/
theorem State.waitingSound.portNext (h : s.waitingSound) : s.portNext.engineSound := by
  obtain ⟨he, hm⟩ := h
  cases hmq : s.port.maintenance with
  | some q =>
    rw [State.portNext_maintenance hmq]
    have hd := Request.start_engineData (hm q hmq) .maintenance s.membership.config.mapBase
    refine ⟨he, fun c h1 h2 => ?_, fun c h1 h2 => ?_, fun c h1 h2 => ?_, fun c h1 _ => ?_, fun c h1 _ => ?_, nofun⟩
    all_goals cases h1
    · cases h2
    · rw [hd] at h2
      cases h2
    · rw [hd] at h2
      cases h2
    · exact .inl rfl
    · rw [Request.start_kind]
      exact hm q hmq
  | none =>
    cases heq : s.port.engine with
    | some q =>
      rw [State.portNext_engine hmq heq]
      have hx := he (by rw [heq]; rfl)
      refine ⟨fun _ => hx, fun _ _ _ _ => hx, fun _ _ _ => hx, fun c h1 _ h3 => ?_, fun c h1 h2 => ?_, fun c h1 h2 => ?_,
        fun q' hq => hm q' hq⟩
      · cases h1
        cases h3
      · cases h2
      · cases h1
        cases h2
    | none =>
      rw [State.portNext_idle hmq heq]
      exact State.engineSound_of_idle rfl ⟨he, hm⟩

/-- The engine's cycle has ended with no request of the engine waiting: what follows leaves the places sound. -/
theorem EngineGoesOn.waitingSound (h : EngineGoesOn s t) {c : Cycle} (hc : s.port.current = some c)
    (he : s.port.engine = none) (hm : ∀ q, s.port.maintenance = some q → q.kind.isData = false) : t.waitingSound := by
  have idle {u : State} (hp : u.port = s.port) : u.waitingSound := by
    unfold State.waitingSound
    rw [hp]
    exact ⟨by simp [he], hm⟩
  cases h with
  | stays h => exact idle h.port
  | ends h st data => exact idle ((State.endExecution_port _ st data).trans h.port)
  | asks h hx q =>
    rw [State.portRequest_busy_engine q ((congrArg MemoryPort.current h.port).trans hc)]
    refine ⟨fun _ => hx, fun r hr => hm r ?_⟩
    rw [← h.port]
    exact hr

end Port

/-! ## Cycle ends (R154, R156, R157) -/

section Cycles

variable {s t : State} {c : Cycle}

theorem Keeps.outcome (k : Keeps s t) (h : s.inboundSound) : t.listSound ∧ t.waitingSound := by
  obtain ⟨hi, ⟨h1, -, -, -, -, -, h7⟩, hl⟩ := k.inboundSound h
  exact ⟨⟨hi, hl⟩, h1, h7⟩

/-- While a cycle of the engine that is not marked runs, none of its requests waits (R150). -/
theorem EngineGoesOn.outcome (k : EngineGoesOn s t) (h : s.inboundSound) (hc : s.port.current = some c)
    (hr : c.requester = .engine) (hd : c.discard = .clear) : t.listSound ∧ t.waitingSound := by
  obtain ⟨hi, ⟨-, -, -, -, h5, -, h7⟩, hl⟩ := h
  refine ⟨k.listSound ⟨hi, hl⟩, k.waitingSound hc ?_ h7⟩
  cases he : s.port.engine with
  | none => rfl
  | some q =>
    obtain h | h := h5 c hc (by rw [he]; rfl)
    · rw [hr] at h
      cases h
    · exact absurd hd h

/-- The orphan of a CONFLICT goes with its data cycle, behind which no engine request waits (R39, R156). -/
theorem State.discardEnded_outcome (h : s.inboundSound) (hc : s.port.current = some c) :
    (s.discardEnded c).listSound ∧ (s.discardEnded c).waitingSound := by
  unfold State.discardEnded
  split
  · rename_i hd
    obtain ⟨hi, ⟨-, -, -, h4, -, -, h7⟩, hl⟩ := h
    obtain ⟨ho, he⟩ := h4 c hc (by simp [Cycle.engineData, hd.1, hd.2]) hd.1
    have hk := State.checkDrain_keeps s.removeExecuting
    refine ⟨hk.listSound (State.listSound.removeOrphan ⟨hi, hl⟩ ho), ?_⟩
    unfold State.waitingSound
    rw [hk.port]
    refine ⟨fun hx => ?_, h7⟩
    rw [show s.removeExecuting.port.engine = none from he] at hx
    cases hx
  · exact (Keeps.refl s).outcome h

theorem State.portNext_sound (hl : s.listSound) (hw : s.waitingSound) : s.portNext.inboundSound :=
  ⟨(State.portNext_listSound hl).1, hw.portNext, (State.portNext_listSound hl).2⟩

theorem State.handOver_sound (h : s.inboundSound) (hc : s.port.current = some c) {r : ReadResult}
    {f : ReadResult → State → State}
    (hf : c.discard = .clear →
      (f r { s with memory := r.memory }).listSound ∧ (f r { s with memory := r.memory }).waitingSound) :
    (s.handOver c r f).inboundSound := by
  have hm : ({ s with memory := r.memory } : State).inboundSound := h
  unfold State.handOver
  simp only
  split
  · obtain ⟨hl, hw⟩ := hf ‹_›
    exact State.portNext_sound hl hw
  · obtain ⟨hl, hw⟩ := State.discardEnded_outcome hm hc
    exact State.portNext_sound hl hw

theorem State.endCycle_sound (h : s.inboundSound) {meant : Cycle → Bool} (ts : List Transfer)
    {f : Cycle → ReadResult → State → State}
    (hf : ∀ {u : State} {c : Cycle}, u.inboundSound → u.port.current = some c → meant c = true → c.discard = .clear →
      ∀ r, (f c r u).listSound ∧ (f c r u).waitingSound) : (s.endCycle meant ts f).inboundSound := by
  unfold State.endCycle
  split
  · rename_i c hc
    split
    · exact State.handOver_sound h hc fun hd => hf (u := { s with memory := (c.run ts s.memory).memory }) h hc ‹_› hd _
    · exact h
  · exact h

/-- A data cycle is the engine's (R149). -/
theorem State.inboundSound.requester_of_isData (h : s.inboundSound) (hc : s.port.current = some c)
    (hd : c.request.kind.isData = true) : c.requester = .engine := by
  obtain ⟨-, ⟨-, -, -, -, -, h6, -⟩, -⟩ := h
  cases hr : c.requester with
  | engine => rfl
  | maintenance =>
    rw [h6 c hc hr] at hd
    cases hd

theorem Cycle.isFill_requester (h : c.isFill = true) : c.requester = .engine := by
  simp only [Cycle.isFill, Bool.and_eq_true, beq_iff_eq] at h
  exact h.1.1

theorem Cycle.isPlainData_requester (h : c.isPlainData = true) : c.requester = .engine := by
  simp only [Cycle.isPlainData, Bool.and_eq_true, beq_iff_eq] at h
  exact h.1.1

theorem Cycle.inWritePhase_isData (h : c.inWritePhase = true) : c.request.kind.isData = true := by
  unfold Cycle.inWritePhase at h
  cases hk : c.request.kind <;> simp_all [CycleKind.isData]

theorem State.fillEnded_outcome (h : s.inboundSound) (hc : s.port.current = some c) (hm : c.isFill = true)
    (hd : c.discard = .clear) (r : ReadResult) : (s.fillEnded r).listSound ∧ (s.fillEnded r).waitingSound := by
  have hr := Cycle.isFill_requester hm
  exact (State.fillEnded_goesOn (h.2.1.2.1 c hc hr hd) r).outcome h hc hr hd

theorem State.updateEnded_keeps (s : State) (c : Cycle) (r : ReadResult) : Keeps s (s.updateEnded c r) := by
  unfold State.updateEnded
  split
  · exact .either (.refl s) (.refl s)
  · exact .refl s

theorem State.maintReadEnded_keeps (s : State) (c : Cycle) (r : ReadResult) : Keeps s (s.maintReadEnded c r) :=
  .either (.refl s) (.refl s)

/-- The word read is kept for the write phase (R153). -/
theorem State.engineSound.withOld (h : s.engineSound) (hc : s.port.current = some c) (old : Option Word) :
    ({ s with port := { s.port with current := some { c with old := old } } } : State).engineSound := by
  obtain ⟨h1, h2, h3, h4, h5, h6, h7⟩ := h
  exact ⟨h1, by rintro _ ⟨⟩; exact h2 c hc, by rintro _ ⟨⟩; exact h3 c hc, by rintro _ ⟨⟩; exact h4 c hc,
    by rintro _ ⟨⟩; exact h5 c hc, by rintro _ ⟨⟩; exact h6 c hc, h7⟩

theorem State.endReadPhase_sound (h : s.inboundSound) (hc : s.port.current = some c) {op : AtomicOp}
    (hk : c.request.kind = .locked op) (t : Transfer) : (s.endReadPhase c op t).inboundSound := by
  unfold State.endReadPhase
  simp only
  split
  · exact ⟨h.1, h.2.1.withOld hc _, h.2.2⟩
  · refine State.handOver_sound h hc fun hd => (State.dataEnded_goesOn _ _).outcome h hc ?_ hd
    exact h.requester_of_isData hc (by rw [hk]; rfl)

end Cycles

/-- The oldest NEW entry has become EXECUTING (R27). -/
theorem nextToExecute.started_listSound {s : State} {pre post : List ListEntry} {e : ListEntry}
    (hn : nextToExecute s.inbound.list pre e post) (h : s.listSound) : (s.started pre e post).listSound := by
  obtain ⟨hl, -, -, hnone⟩ := hn
  obtain ⟨hi, hv⟩ := h
  rw [hl] at hnone
  refine ⟨hi.relist (l := pre ++ { e with state := .executing } :: post) ?_ ?_ ?_ s.inbound.replyOrder s.inbound.enable,
    hv.withInbound (fun ho f hf => ?_) fun he => ?_⟩
  · simp [hl, ListEntry.key]
  · have hz (l : List ListEntry) (hl : ∀ f ∈ l, f.state ≠ .executing) : l.countP (fun e => e.state == .executing) = 0 :=
      List.countP_eq_zero.mpr fun f hf => by simp [hl f hf]
    simp [List.countP_append, hz pre fun f hf => hnone f (by simp [hf]), hz post fun f hf => hnone f (by simp [hf])]
  · intro f hf hfo
    rcases List.mem_append.mp hf with hf | hf
    · exact hi.orphan_executing (by simp [hl, hf]) hfo
    rcases List.mem_cons.mp hf with rfl | hf
    · rfl
    · exact hi.orphan_executing (by simp [hl, hf]) hfo
  · rw [hl] at ho
    rcases List.mem_append.mp hf with hf | hf
    · exact ho f (by simp [hf])
    rcases List.mem_cons.mp hf with rfl | hf
    · exact ho e (by simp)
    · exact ho f (by simp [hf])
  · rw [hl] at he
    simp at he

/-- The start of an execution (R27): with none EXECUTING the port holds nothing of the engine's. -/
theorem State.startExecution_sound {s : State} (h : s.inboundSound) : s.startExecution.inboundSound := by
  cases hx : s.executing with
  | some e =>
    obtain ⟨he, hs⟩ := State.executing_spec hx
    rw [State.startExecution_none (.inr ⟨e, he, hs⟩)]
    exact h
  | none =>
    have hnone : ∀ e ∈ s.inbound.list, e.state ≠ .executing := by
      simpa using List.find?_eq_none.mp hx
    cases hf : s.inbound.list.find? fun e => e.state == .fresh with
    | none =>
      rw [State.startExecution_none (.inl (by simpa using List.find?_eq_none.mp hf))]
      exact h
    | some e =>
      obtain ⟨hfresh, pre, post, hl, hpre⟩ := List.find?_eq_some_iff_append.mp hf
      have hn : nextToExecute s.inbound.list pre e post :=
        ⟨hl, by simpa using hfresh, by simpa using hpre, hnone⟩
      obtain ⟨hi, he, hv⟩ := h
      have hp : (s.started pre e post).port.unclaimed := he.unclaimed hx
      have hgoes : EngineGoesOn (s.started pre e post) s.startExecution := by
        rw [hn.startExecution_eq]
        split
        · exact .ends (.refl _) _ _
        · exact State.lookup_goesOn (by rw [hn.executes_started.executing_eq]; rfl) _
      obtain ⟨hi', hv'⟩ := hgoes.listSound (hn.started_listSound ⟨hi, hv⟩)
      exact ⟨hi', hgoes.engineSound hp, hv'⟩

/-! ## CONFLICT and the resets -/

section Conflict

variable {s : State}

theorem Inbound.mem_atConflict {u : Inbound} {b : Bool} {e : ListEntry} (h : e ∈ (u.atConflict b).list) :
    e.state = .executing ∧ e.orphaned = true := by
  unfold Inbound.atConflict at h
  simp only at h
  split at h
  · obtain ⟨f, hf, rfl⟩ := List.mem_map.mp h
    exact ⟨by simpa using (List.mem_filter.mp hf).2, rfl⟩
  · cases h

theorem Inbound.sound.atConflict {u : Inbound} (h : u.sound) (b : Bool) : (u.atConflict b).sound := by
  refine Inbound.sound_of_orphans ?_ (fun e he => (Inbound.mem_atConflict he).1)
    (fun e he => (Inbound.mem_atConflict he).2) rfl
  unfold Inbound.atConflict
  simp only
  split
  · rw [List.countP_map]
    exact List.filter_sublist.countP_le.trans h.1
  · exact Nat.zero_le 1

theorem Inbound.atConflict_executing {u : Inbound} {e : ListEntry} (he : e ∈ u.list) (hs : e.state = .executing) :
    { e with orphaned := true } ∈ (u.atConflict true).list :=
  List.mem_map.mpr ⟨e, List.mem_filter.mpr ⟨he, by simp [hs]⟩, rfl⟩

/-- The cycle in progress as CONFLICT leaves it (R156). -/
theorem MemoryPort.atConflict_current {p : MemoryPort} {d : Cycle} (h : p.atConflict.current = some d) :
    ∃ c, p.current = some c ∧ d.requester = c.requester ∧ d.request = c.request ∧
      (d.requester = .engine → d.discard ≠ .clear) ∧ (d.discard = .bySoftReset ↔ c.discard = .bySoftReset) := by
  obtain ⟨c, hc, rfl⟩ := Option.map_eq_some_iff.mp h
  refine ⟨c, hc, ?_⟩
  split
  · rename_i hd
    simp [hd.2]
  · rename_i hd
    exact ⟨rfl, rfl, fun hr hx => hd ⟨hr, hx⟩, Iff.rfl⟩

/-- At CONFLICT the data cycle on the Local Bus is marked and its entry orphaned; no engine request waits (R39, R156). -/
theorem State.engineSound.atConflict (h : s.engineSound) {t : State} (hp : t.port = s.port.atConflict)
    (hi : t.inbound = s.inbound.atConflict s.port.dataOnBus) : t.engineSound := by
  obtain ⟨-, -, h3, -, -, h6, h7⟩ := h
  have he : t.port.engine = none := by rw [hp]; rfl
  unfold State.engineSound
  rw [he, hp]
  refine ⟨nofun, fun d hd hr hx => ?_, fun d hd hx => ?_, fun d hd _ _ => ⟨fun e he _ => ?_, rfl⟩, nofun,
    fun d hd hr => ?_, h7⟩
  · obtain ⟨c, -, -, -, hm, -⟩ := MemoryPort.atConflict_current hd
    exact absurd hx (hm hr)
  · obtain ⟨c, hc, hr, hq, -, hsoft⟩ := MemoryPort.atConflict_current hd
    have hcx : c.engineData = true := by
      simpa only [Cycle.engineData, hq, Bool.and_eq_true, bne_iff_ne, ne_eq, hsoft] using hx
    have hbus : s.port.dataOnBus = true := by
      have hreq : c.requester = .engine := by
        cases hcr : c.requester with
        | engine => rfl
        | maintenance => simp [Cycle.engineData, h6 c hc hcr] at hcx
      unfold MemoryPort.dataOnBus
      rw [hc]
      simpa [hreq, Cycle.engineData] using hcx
    obtain ⟨e, he, hes⟩ := State.executing_isSome.mp (h3 c hc hcx)
    refine State.executing_isSome.mpr ⟨{ e with orphaned := true }, ?_, hes⟩
    rw [hi, hbus]
    exact Inbound.atConflict_executing he hes
  · rw [hi] at he
    exact (Inbound.mem_atConflict he).2
  · obtain ⟨c, hc, hcr, hq, -⟩ := MemoryPort.atConflict_current hd
    rw [hq]
    exact h6 c hc (hcr.symm.trans hr)

theorem State.failAllPosted_keeps (s : State) : Keeps s s.failAllPosted := by
  have fold (es : List PostedEntry) : ∀ u : State, Keeps s u → Keeps s (es.foldl (fun u e => u.failPosted e .linkDown) u) := by
    induction es with
    | nil => exact fun u hu => hu
    | cons e es ih => exact fun u hu => ih _ (hu.trans (.refl u))
  exact fold _ _ (.refl s)

theorem State.endHeldAtConflict_keeps (s : State) : Keeps s s.endHeldAtConflict := by
  unfold State.endHeldAtConflict
  split
  · exact s.deliver_keeps .apertureRead .linkDown []
  · exact .refl s
  · exact .refl s
  · exact .refl s

theorem State.enterConflict_sound (h : s.inboundSound)
    (hp : ∀ f, s.link.phase ≠ .own { owner := .leave, frame := f }) : s.enterConflict.inboundSound := by
  unfold State.enterConflict
  split
  · exact h
  · exact h
  · obtain ⟨b, e⟩ := s.setLink_touches .conflict
    rw [e]
    refine ((State.failAllPosted_keeps _).trans (State.endHeldAtConflict_keeps _)).inboundSound ?_
    obtain ⟨hi, he, -⟩ := h
    exact ⟨hi.atConflict _, he.atConflict rfl rfl, fun _ e he => (Inbound.mem_atConflict he).2, nofun,
      fun f hf => absurd hf (hp f)⟩

theorem State.heard_sound (h : s.inboundSound) (i : Station) {f : State → State} (hf : ∀ u, Keeps u (f u)) :
    (s.heard i f).inboundSound := by
  have hl : ({ s with link := s.link.afterCrc } : State).inboundSound := (s.withLink_keeps (u := s.link.afterCrc) nofun).inboundSound h
  unfold State.heard
  simp only
  split
  · split
    · exact State.enterConflict_sound hl nofun
    · exact (hf _).inboundSound hl
  · exact h

/-- An empty list beside a vacant filter, nothing of the engine's in the port and no LEAVE (R38, R40). -/
theorem State.inboundSound_of_empty (hl : s.inbound.list = []) (hf : s.inbound.filter = emptyFilter)
    (hp : s.port.unclaimed) (hv : s.membership.leavePending = false)
    (hph : ∀ f, s.link.phase ≠ .own { owner := .leave, frame := f }) : s.inboundSound := by
  refine ⟨Inbound.sound_of_orphans (by simp [hl]) (by simp [hl]) (by simp [hl]) hf, State.engineSound_of_unclaimed hp,
    by simp [hl], by simp [hv], fun f hx => absurd hx (hph f)⟩

theorem State.softReset_sound (h : s.inboundSound) (b : Bool) : (s.softReset b).inboundSound := by
  obtain ⟨-, ⟨-, -, -, -, -, h6, -⟩, -⟩ := h
  refine State.inboundSound_of_empty rfl rfl ⟨rfl, fun d hd => ?_, nofun⟩ rfl fun f => show MediumPhase.idle ≠ _ from nofun
  obtain ⟨c, hc, rfl⟩ := Option.map_eq_some_iff.mp hd
  exact ⟨nofun, Bool.and_false _, h6 c hc⟩

theorem State.powerOn_sound (s : State) : s.powerOn.inboundSound :=
  State.inboundSound_of_empty rfl rfl ⟨rfl, nofun, nofun⟩ rfl nofun

theorem State.notReset_sound (h : s.inboundSound) : s.notReset.inboundSound := by
  obtain ⟨hl, hw⟩ := (Keeps.refl s).outcome h
  exact State.portNext_sound (s := { s with
    pins := { s.pins with resetLow := false }, host := { s.host with startup := some Config.hostStartup } }) hl hw

theorem State.assertReset_sound (h : s.inboundSound) (landed : List Bool) : (s.assertReset landed).inboundSound := by
  obtain ⟨hi, ⟨h1, -, -, -, -, -, h7⟩, hv1, hv2, -⟩ := h
  refine ⟨hi, State.engineSound_of_idle rfl ⟨h1, h7⟩, hv1, hv2, fun f hf => ?_⟩
  have hf : (match s.link.phase with | .own _ => MediumPhase.recovering | p => p) = .own { owner := .leave, frame := f } := hf
  split at hf
  · cases hf
  · rename_i hn
    exact absurd hf (hn _)

end Conflict

/-! ## Host accesses -/

section HostOps

variable (s : State)

theorem State.setLimits_keeps (w : Word) : Keeps s (s.setLimits w) := .either (.refl s) (.refl s)

theorem State.setMapBase_keeps (w : Word) : Keeps s (s.setMapBase w) := .either (.refl s) (.refl s)

theorem State.clearLinkCause_keeps (w : Word) : Keeps s (s.clearLinkCause w) := .either (.refl s) (.refl s)

theorem State.writeMaint_keeps (r : MaintRegister) (w : Word) : Keeps s (s.writeMaint r w) := .either (.refl s) (.refl s)

theorem State.takeInvalidate_keeps : Keeps s s.takeInvalidate := .either (.refl s) (.refl s)

theorem State.writeSlot_keeps (k : SlotNo) (r : SlotRegister) (w : Word) : Keeps s (s.writeSlot k r w) :=
  .either (.refl s) (.refl s)

theorem State.goSlot_keeps (k : SlotNo) : Keeps s (s.goSlot k) := by
  have hset (sl : Slot) : Keeps s (s.setSlot k sl) := .refl s
  unfold State.goSlot
  split
  · exact .refl s
  · simp only
    split
    · exact hset _
    · exact .either ((hset _).trans (State.presentSlot_keeps _ k)) (hset _)

theorem State.releaseSlot_keeps (k : SlotNo) : Keeps s (s.releaseSlot k) :=
  .either (.refl s) (.either (.refl s) (.refl s))

theorem State.cancelEntry_keeps (k : SlotNo) (t : Tag) : Keeps s (s.cancelEntry k t) := by
  have hend : Keeps s (s.endEntry t .cancelled []).followThrough :=
    (s.endEntry_keeps t _ _).trans (State.followThrough_keeps _)
  unfold State.cancelEntry
  split
  · exact .refl s
  · split
    · exact hend
    · exact hend
    · exact .refl s
    · exact .refl s

theorem State.cancelSlot_keeps (k : SlotNo) : Keeps s (s.cancelSlot k) := by
  unfold State.cancelSlot
  split
  · exact .refl s
  · exact .refl s
  · exact .refl s
  · split
    · exact s.cancelEntry_keeps k _
    · exact .refl s

theorem State.slotCommand_keeps (k : SlotNo) (w : Word) : Keeps s (s.slotCommand k w) :=
  .either (s.goSlot_keeps k) (.either (s.releaseSlot_keeps k) (.either (s.cancelSlot_keeps k) (.refl s)))

theorem State.storeAccess_keeps (a : BitVec 18) (size : AccessSize) (data : Word) : Keeps s (s.storeAccess a size data) := by
  unfold State.storeAccess
  split
  · exact .refl s
  · split
    · exact .refl s
    · exact s.placeStore_keeps _

theorem State.loadAccess_keeps (a : BitVec 18) (size : AccessSize) : Keeps s (s.loadAccess a size) := by
  have hold (h : HeldAccess) : Keeps s (s.holdHost h) := .refl s
  unfold State.loadAccess
  split
  · exact .refl s
  · split
    · exact .refl s
    · exact (hold _).trans (State.presentLoad_keeps _)

theorem State.readFence_keeps : Keeps s s.readFence := .either (.refl s) (.refl s)

theorem State.writeSlotRegister_keeps (k : SlotNo) (offset : Nat) (w : Word) : Keeps s (s.writeSlotRegister k offset w) := by
  refine .either (s.slotCommand_keeps k w) ?_
  split
  · exact s.writeSlot_keeps k _ w
  · exact .refl s

end HostOps

section Maintenance

variable {s : State}

/-- A choice between two states. -/
theorem State.inboundSound.either {c : Prop} [Decidable c] {t : State} (h : s.inboundSound) (ht : t.inboundSound) :
    (if c then s else t).inboundSound := by
  split <;> assumption

/-- Maintenance asks the port for a map cycle (R16, R17, R150). -/
theorem State.inboundSound.portRequest_maintenance (h : s.inboundSound) {q : Request} (hq : q.kind.isData = false) :
    (s.portRequest .maintenance q).inboundSound := by
  obtain ⟨hi, ⟨h1, h2, h3, h4, h5, h6, h7⟩, hl⟩ := h
  cases hc : s.port.current with
  | none =>
    rw [State.portRequest_idle _ _ hc]
    have hd := Request.start_engineData hq .maintenance s.membership.config.mapBase
    refine ⟨hi, ⟨h1, fun c hx hr => ?_, fun c hx he => ?_, fun c hx he => ?_, fun c hx _ => ?_, fun c hx _ => ?_, h7⟩, hl⟩
    all_goals cases hx
    · cases hr
    · rw [hd] at he
      cases he
    · rw [hd] at he
      cases he
    · exact .inl rfl
    · rw [Request.start_kind]
      exact hq
  | some c =>
    rw [State.portRequest_busy_maintenance _ hc]
    refine ⟨hi, ⟨h1, h2, h3, h4, h5, h6, fun q' hq' => ?_⟩, hl⟩
    cases hq'
    exact hq

theorem State.takeUpdate_sound (h : s.inboundSound) : s.takeUpdate.inboundSound :=
  .either (State.inboundSound.portRequest_maintenance
    (s := { s with map := { s.map with maint := { s.map.maint with state := .busyUpdate } } }) h rfl) h

theorem State.takeRead_sound (h : s.inboundSound) : s.takeRead.inboundSound :=
  .either (State.inboundSound.portRequest_maintenance
    (s := { s with map := { s.map with maint := { s.map.maint with state := .busyRead } } }) h rfl) h

theorem State.maintCommand_sound (h : s.inboundSound) (w : Word) : (s.maintCommand w).inboundSound :=
  .either (State.takeUpdate_sound h) (.either (State.takeRead_sound h)
    (.either (s.takeInvalidate_keeps.inboundSound h) h))

theorem State.writeControl_sound (h : s.inboundSound) (w : Word) : (s.writeControl w).inboundSound := by
  have he (b : Bool) : Keeps s (s.setEnable b) := .refl s
  refine .either (State.softReset_sound h true) (.either ?_ (.either ?_ h))
  · exact ((he _).trans (State.joinOrLeave_keeps _ _ _ _)).inboundSound h
  · exact ((he _).trans (State.leaveLink_keeps _)).inboundSound h

theorem State.writeRegister_sound (h : s.inboundSound) (offset : BitVec 12) (w : Word) :
    (s.writeRegister offset w).inboundSound := by
  unfold State.writeRegister
  refine .either (State.writeControl_sound h w) (.either ((s.setLimits_keeps w).inboundSound h)
    (.either ((s.setMapBase_keeps w).inboundSound h) (.either ((s.clearLinkCause_keeps w).inboundSound h)
    (.either h (.either h (.either h (.either ((s.writeMaint_keeps _ w).inboundSound h)
    (.either ((s.writeMaint_keeps _ w).inboundSound h) (.either ((s.writeMaint_keeps _ w).inboundSound h)
    (.either (State.maintCommand_sound h w) (.either h (.either
      ((s.writeSlotRegister_keeps _ _ w).inboundSound h) h))))))))))))

end Maintenance

/-! ## Commands and steps -/

/-- What a command answers has a sound Inbound Unit. -/
def AnswersSound (r : Result) : Prop := ∀ t, r = .next t → t.inboundSound

theorem AnswersSound.next {t : State} (h : t.inboundSound) : AnswersSound (.next t) := fun _ e => by
  cases e
  exact h

theorem AnswersSound.putBack {r : Result} (h : AnswersSound r) (rest : List Instr) :
    AnswersSound (Machine.putBack rest r) := by
  cases r with
  | next t => exact .next (t := t.withWaiting _) (h t rfl)
  | fault _ => exact h
  | refused _ => exact h

section Commands

variable {s : State} {f : State → State}

theorem running_sound (h : s.inboundSound) (hf : (f s).inboundSound) : AnswersSound (running s f) := by
  unfold running
  split
  · exact .next h
  · exact .next hf

theorem hostAccess_sound {c : Instr} (h : s.inboundSound) (hf : (f s).inboundSound) :
    AnswersSound (hostAccess c s f) := by
  unfold hostAccess
  split
  · exact .next (t := s.waitOnBus c) h
  · exact .next hf

theorem running_keeps (h : s.inboundSound) (hf : ∀ u, Keeps u (f u)) : AnswersSound (running s f) :=
  running_sound h ((hf s).inboundSound h)

theorem hostAccess_keeps {c : Instr} (h : s.inboundSound) (hf : ∀ u, Keeps u (f u)) : AnswersSound (hostAccess c s f) :=
  hostAccess_sound h ((hf s).inboundSound h)

theorem hostWrite_sound {c : Instr} (h : s.inboundSound) (hf : ∀ {u : State}, u.inboundSound → (f u).inboundSound) :
    AnswersSound (hostWrite c s f) :=
  hostAccess_sound (f := fun u => f (u.answerHost .done)) h (hf (u := s.answerHost .done) h)

theorem hostWrite_keeps {c : Instr} (h : s.inboundSound) (hf : ∀ u, Keeps u (f u)) : AnswersSound (hostWrite c s f) :=
  hostWrite_sound h fun hu => (hf _).inboundSound hu

theorem execFenceReadComplete_sound (h : s.inboundSound) : AnswersSound (execFenceReadComplete s) :=
  running_keeps h fun u => .either (.refl u) (.refl u)

theorem execArbitrationLost_sound (h : s.inboundSound) : AnswersSound (execArbitrationLost s) :=
  running_keeps h fun u => by
    split
    · exact u.becomeListener_keeps.trans (State.handBack_keeps _ _)
    · exact .refl u

theorem execReadbackAbort_sound (h : s.inboundSound) : AnswersSound (execReadbackAbort s) :=
  running_keeps h fun u => by
    split
    · exact u.becomeListener_keeps.trans (State.abortFrame_keeps _ _)
    · exact .refl u

theorem execRequestAcknowledge_sound (h : s.inboundSound) (bits : BitVec 3) : AnswersSound (execRequestAcknowledge bits s) :=
  running_keeps h fun u => by
    split
    · exact u.requestAnswered_keeps _ _ _
    · exact .refl u

theorem execReplyAcknowledge_sound (h : s.inboundSound) (bits : BitVec 3) : AnswersSound (execReplyAcknowledge bits s) :=
  running_keeps h fun u => by
    split
    · exact u.replyAnswered_keeps _ _ _
    · exact .refl u

theorem execAnnounceTransmitted_sound (h : s.inboundSound) : AnswersSound (execAnnounceTransmitted s) :=
  running_keeps h fun u => by
    split
    · exact u.announced_keeps
    · exact .refl u

theorem execLeaveTransmitted_sound (h : s.inboundSound) : AnswersSound (execLeaveTransmitted s) :=
  running_keeps h fun u => by
    split
    · rename_i f hf
      refine State.left_keeps (f := f) ?_
      unfold State.onAir at hf
      split at hf
      · cases hf
        assumption
      · cases hf
    · exact .refl u

theorem execLockedReadPhaseEnd_sound (h : s.inboundSound) (t : Transfer) : AnswersSound (execLockedReadPhaseEnd t s) := by
  refine running_sound h ?_
  split
  · split
    · exact State.endReadPhase_sound h ‹_› ‹_› t
    · exact h
  · exact h

theorem execLockedWritePhaseEnd_sound (h : s.inboundSound) (t : Transfer) : AnswersSound (execLockedWritePhaseEnd t s) :=
  running_sound h <| State.endCycle_sound h [t] fun hu hc hm hd r =>
    (State.dataEnded_goesOn _ r).outcome hu hc (hu.requester_of_isData hc (Cycle.inWritePhase_isData hm)) hd

theorem execDataCycleEnd_sound (h : s.inboundSound) (ts : List Transfer) : AnswersSound (execDataCycleEnd ts s) :=
  running_sound h <| State.endCycle_sound h ts fun hu hc hm hd r =>
    (State.dataEnded_goesOn _ r).outcome hu hc (Cycle.isPlainData_requester hm) hd

theorem execDiscardedCycleEnd_sound (h : s.inboundSound) (ts : List Transfer) : AnswersSound (execDiscardedCycleEnd ts s) :=
  running_sound h <| State.endCycle_sound h ts fun _ _ hm hd _ => absurd hd (by simpa using hm)

theorem execProbe_sound (h : s.inboundSound) (i : Station) (t : Tag) (b : Bool) : AnswersSound (execProbe i t b s) :=
  running_sound h <| State.heard_sound h i fun u => .either (u.hear_keeps i) (u.hear_keeps i)

theorem execRegisterWrite_sound (h : s.inboundSound) (offset : BitVec 12) (w : Word) :
    AnswersSound (execRegisterWrite offset w s) :=
  hostAccess_sound h (.either (State.writeRegister_sound (s := s.answerHost .done) h offset w) h)

theorem execResetAsserted_sound (h : s.inboundSound) (landed : List Bool) : AnswersSound (execResetAsserted landed s) := by
  unfold execResetAsserted
  split
  · exact .next h
  · exact .next (State.assertReset_sound h landed)

theorem execResetReleased_sound (h : s.inboundSound) (p : ResetPulse) : AnswersSound (execResetReleased p s) := by
  unfold execResetReleased
  split
  · cases p with
    | full => exact .next s.powerOn_sound
    | short taken => exact .next (.either s.powerOn_sound (State.notReset_sound h))
  · exact .next h

end Commands

/-- Every command keeps the Inbound Unit sound. -/
theorem exec_sound (c : Instr) {s : State} (h : s.inboundSound) : AnswersSound (exec c s) := by
  cases c with
  | join stn rate leaveToo enable =>
    exact hostWrite_keeps h fun u => State.joinOrLeave_keeps (u.setEnable enable) stn rate leaveToo
  | leave enable => exact hostWrite_keeps h fun u => State.leaveLink_keeps (u.setEnable enable)
  | softReset b => exact hostWrite_sound h fun hu => State.softReset_sound hu b
  | inboundEnableWrite enable => exact hostWrite_keeps h fun u => .refl u
  | limitsWrite w => exact hostWrite_keeps h fun u => u.setLimits_keeps w
  | mapBaseWrite w => exact hostWrite_keeps h fun u => u.setMapBase_keeps w
  | linkCauseClear w => exact hostWrite_keeps h fun u => u.clearLinkCause_keeps w
  | interruptMaskWrite w => exact hostWrite_keeps h fun u => .refl u
  | fenceRead => exact hostAccess_keeps h fun u => u.readFence_keeps
  | fenceReadComplete => exact execFenceReadComplete_sound h
  | signalPop w => exact hostWrite_keeps h fun u => .refl u
  | eventPop w => exact hostWrite_keeps h fun u => .refl u
  | maintRegisterWrite r w => exact hostWrite_keeps h fun u => u.writeMaint_keeps r w
  | update => exact hostWrite_sound h fun hu => State.takeUpdate_sound hu
  | read => exact hostWrite_sound h fun hu => State.takeRead_sound hu
  | invalidateAll => exact hostWrite_keeps h fun u => u.takeInvalidate_keeps
  | maintCommandUndefined w => exact hostWrite_keeps h fun u => .refl u
  | slotParameterWrite k r w => exact hostWrite_keeps h fun u => u.writeSlot_keeps k r w
  | go k => exact hostWrite_keeps h fun u => u.goSlot_keeps k
  | release k => exact hostWrite_keeps h fun u => u.releaseSlot_keeps k
  | cancel k => exact hostWrite_keeps h fun u => u.cancelSlot_keeps k
  | slotCommandUndefined k w => exact hostWrite_keeps h fun u => .refl u
  | registerWrite offset w => exact execRegisterWrite_sound h offset w
  | registerAccessInvalid write size offset => exact hostAccess_keeps h fun u => .refl u
  | apertureStore a size data => exact hostAccess_keeps h fun u => u.storeAccess_keeps a size data
  | apertureLoad a size => exact hostAccess_keeps h fun u => u.loadAccess_keeps a size
  | heldStorePlaced => exact running_keeps h fun u => u.endHeldStore_keeps
  | postedEntryPresented p => exact running_keeps h fun u => u.presentPlace_keeps p
  | loadPresented => exact running_keeps h fun u => u.presentLoad_keeps
  | slotPresented k => exact running_keeps h fun u => u.presentSlot_keeps k
  | drainComplete => exact running_keeps h fun u => u.checkDrain_keeps
  | transmitOpportunity => exact running_keeps h fun u => u.transmit_keeps
  | arbitrationLost => exact execArbitrationLost_sound h
  | readbackAbort => exact execReadbackAbort_sound h
  | requestAcknowledge bits => exact execRequestAcknowledge_sound h bits
  | replyAcknowledge bits => exact execReplyAcknowledge_sound h bits
  | announceTransmitted => exact execAnnounceTransmitted_sound h
  | leaveTransmitted => exact execLeaveTransmitted_sound h
  | backoffElapsed t => exact running_keeps h fun u => u.endBackoff_keeps t
  | loopbackBackoffElapsed t => exact running_keeps h fun u => u.endLoopbackBackoff_keeps t
  | replyBackoffElapsed i t => exact running_keeps h fun u => u.endReplyBackoff_keeps i t
  | responseTimeout t => exact running_keeps h fun u => u.timeOut_keeps t
  | roundGapElapsed => exact running_keeps h fun u => u.endRound_keeps
  | joinListenComplete => exact running_keeps h fun u => u.endListen_keeps
  | mediumSyncRun => exact running_keeps h fun u => u.endSync_keeps
  | strayDominantBit => exact running_keeps h fun u => u.strayBit_keeps
  | badFrame n => exact running_keeps h fun u => u.dropFrame_keeps n
  | malformedFrame frame => exact running_sound h (State.heard_sound h _ fun u => u.hear_keeps _)
  | frameHeard i => exact running_sound h (State.heard_sound h i fun u => u.hear_keeps i)
  | ownSourceFrameHeard => exact running_sound h (State.heard_sound h _ fun u => .refl u)
  | readReq i t b p o n =>
    exact running_sound h (State.heard_sound h i fun u => .either (u.decideOffer_keeps i t b _) (u.hear_keeps i))
  | writeReq i t b p o ws =>
    exact running_sound h (State.heard_sound h i fun u => .either (u.decideOffer_keeps i t b _) (u.hear_keeps i))
  | atomicReq i t b p o op => exact running_sound h (State.heard_sound h i fun u => u.decideOffer_keeps i t b _)
  | signal i t b v => exact running_sound h (State.heard_sound h i fun u => u.decideOffer_keeps i t b _)
  | probe i t b => exact execProbe_sound h i t b
  | response i t b st data =>
    exact running_sound h (State.heard_sound h i fun u => .either (u.answer_keeps i t b st data) (u.hear_keeps i))
  | announce i =>
    exact running_sound h (State.heard_sound h i fun u =>
      ((u.hear_keeps i).trans (State.purge_keeps _ i)).trans (State.checkDrain_keeps _))
  | leaveFrame i =>
    exact running_sound h (State.heard_sound h i fun u =>
      ((u.hearLeave_keeps i).trans (State.purge_keeps _ i)).trans (State.checkDrain_keeps _))
  | executionStart => exact running_sound h (State.startExecution_sound h)
  | mapFillEnd ts =>
    exact running_sound h (State.endCycle_sound h ts fun hu hc hm hd r => State.fillEnded_outcome hu hc hm hd r)
  | dataCycleEnd ts => exact execDataCycleEnd_sound h ts
  | lockedReadPhaseEnd t => exact execLockedReadPhaseEnd_sound h t
  | lockedWritePhaseEnd t => exact execLockedWritePhaseEnd_sound h t
  | mapWriteEnd ts =>
    exact running_sound h (State.endCycle_sound h ts fun hu _ _ _ r => (State.updateEnded_keeps _ _ r).outcome hu)
  | maintMapReadEnd ts =>
    exact running_sound h (State.endCycle_sound h ts fun hu _ _ _ r => (State.maintReadEnded_keeps _ _ r).outcome hu)
  | discardedCycleEnd ts => exact execDiscardedCycleEnd_sound h ts
  | resetAsserted landed => exact execResetAsserted_sound h landed
  | resetReleased p => exact execResetReleased_sound h p
  | hostPortReady =>
    exact running_keeps (f := fun u => { u with host := { u.host with startup := none } }) h fun u => .refl u
  | startMarker => exact running_keeps h fun u => u.startSeen_keeps
  | acknowledgeSlotCompleted => exact running_keeps h fun u => u.endSlotAfterReset_keeps

/-- What the part does of itself keeps the Inbound Unit sound where the commands it runs do. -/
theorem idleStep_sound {s : State} (h : s.inboundSound) : AnswersSound (s.idleStep exec) := by
  unfold State.idleStep
  split
  · exact exec_sound _ h
  split
  · exact (exec_sound _ (s := s.withWaiting []) h).putBack _
  · exact .next (s.tick_keeps.inboundSound h)

/-- Settles O58: a command from the queue, a happening that is due, a waiting access and one bit time each keep list, filter
and port in agreement. -/
theorem everyStepKeepsFilterAndListInAgreement : Obligations.EveryStepKeepsFilterAndListInAgreement := by
  intro s t h e
  have hq (rest : List Instr) : ({ s with pending := rest } : State).inboundSound := h
  unfold step at e
  split at e
  · exact exec_sound _ (hq _) t e
  · exact idleStep_sound h t e

end Sys2Proof.Machine

/-! SUPPORT. The accept decision step by step (R22 to R24), a frame heard from another station (R96, R115, R116), and the
registers that read the Inbound Request List and the Roster (R175). -/

namespace Sys2Proof.Machine

/-! ## The accept decision (R22 to R24, R48, R49) -/

section AcceptDecision

variable {s : State} {i : Station} {t : Tag} {b : Bool}

theorem acceptDecision_opened (h : s.filterAt i t = { issue := b, state := .opened }) (o : Offer) :
    acceptDecision i t b o s = (.accept, s) := if_pos h

theorem acceptDecision_closed (h : s.filterAt i t = { issue := b, state := .closed }) (o : Offer) :
    acceptDecision i t b o s =
      match o with
      | .signal _ => (.accept, s)
      | .request _ _ _ => (.stale, s.addEvent (.tagged .duplicateAfterAnswer i t)) := by
  have hn : s.filterAt i t ≠ { issue := b, state := .opened } := by simp [h]
  exact (if_neg hn).trans (if_pos h)

/-- A frame that its filter record does not tell for a repeat. -/
def State.newFor (s : State) (i : Station) (t : Tag) (b : Bool) : Prop :=
  s.filterAt i t ≠ { issue := b, state := .opened } ∧ s.filterAt i t ≠ { issue := b, state := .closed }

theorem acceptDecision_new (h : s.newFor i t b) (o : Offer) :
    acceptDecision i t b o s =
      if !s.inbound.enable ∨ s.membership.link = .draining then (.refuse, s)
      else if s.full o ∨ (s.filterAt i t).state = .opened then (.busy, s)
      else (.accept, s.enlist i t b o) := (if_neg h.1).trans (if_neg h.2)

theorem acceptDecision_refuse (h : s.newFor i t b) (hr : s.inbound.enable = false ∨ s.membership.link = .draining)
    (o : Offer) : acceptDecision i t b o s = (.refuse, s) :=
  (acceptDecision_new h o).trans (if_pos (hr.imp_left fun he => by rw [he]; rfl))

/-- Past the refusal the room check decides (R23). -/
theorem acceptDecision_room (h : s.newFor i t b) (he : s.inbound.enable = true) (hd : s.membership.link ≠ .draining)
    (o : Offer) :
    acceptDecision i t b o s =
      if s.full o ∨ (s.filterAt i t).state = .opened then (.busy, s) else (.accept, s.enlist i t b o) := by
  rw [acceptDecision_new h, if_neg]
  simp [he, hd]

theorem acceptDecision_busy (h : s.newFor i t b) (he : s.inbound.enable = true) (hd : s.membership.link ≠ .draining)
    {o : Offer} (hb : s.full o = true ∨ (s.filterAt i t).state = .opened) : acceptDecision i t b o s = (.busy, s) :=
  (acceptDecision_room h he hd o).trans (if_pos hb)

theorem acceptDecision_accept (h : s.newFor i t b) (he : s.inbound.enable = true) (hd : s.membership.link ≠ .draining)
    {o : Offer} (hf : s.full o = false) (ho : (s.filterAt i t).state ≠ .opened) :
    acceptDecision i t b o s = (.accept, s.enlist i t b o) :=
  (acceptDecision_room h he hd o).trans (if_neg (by simp [hf, ho]))

end AcceptDecision

/-! ## The inbound status (R41, R175) -/

theorem State.readRegister_inboundStatus (s : State) : s.readRegister 0x01C#12 = s.inboundStatus := rfl

theorem State.inboundStatus_length {s : State} (h : s.inbound.list.length ≤ 8) :
    (s.inboundStatus.extractLsb' 0 4).toNat = s.inbound.list.length := by
  have hx := flag_le_one (s.inbound.list.any fun e => e.state == .executing)
  have ho := flag_le_one (s.inbound.list.any ListEntry.orphaned)
  rw [State.inboundStatus, extractLsb'_ofNat_toNat]
  omega

theorem State.inboundStatus_executing {s : State} (h : s.inbound.list.length ≤ 8) :
    s.inboundStatus.getLsbD 8 = s.inbound.list.any fun e => e.state == .executing := by
  have hx := flag_le_one (s.inbound.list.any fun e => e.state == .executing)
  have ho := flag_le_one (s.inbound.list.any ListEntry.orphaned)
  exact getLsbD_ofNat_flag (by decide) (by omega)

theorem State.inboundStatus_orphaned {s : State} (h : s.inbound.list.length ≤ 8) :
    s.inboundStatus.getLsbD 9 = s.inbound.list.any ListEntry.orphaned := by
  have hx := flag_le_one (s.inbound.list.any fun e => e.state == .executing)
  have ho := flag_le_one (s.inbound.list.any ListEntry.orphaned)
  exact getLsbD_ofNat_flag (by decide) (by omega)

/-- Settles O44: the decision by its steps, and the inbound status by its fields. -/
theorem acceptDecisionFollowsItsSteps : Obligations.AcceptDecisionFollowsItsSteps := by
  refine ⟨fun i g b o s => ?_, fun s hl => ?_⟩
  · intro r record fresh
    refine ⟨fun h => acceptDecision_opened h o, ?_, ?_, fun hf hr => acceptDecision_refuse hf hr o,
      fun hf he hd => ⟨fun ho => acceptDecision_busy hf he hd (.inr ho), ?_, ?_, ?_, ?_⟩⟩
    · rintro h ⟨v, rfl⟩
      exact acceptDecision_closed h _
    · rintro h ⟨p, w, x, rfl⟩
      exact acceptDecision_closed h _
    · rintro p w x rfl hl
      exact acceptDecision_busy hf he hd (.inl (decide_eq_true hl))
    · rintro v rfl hl
      exact acceptDecision_busy hf he hd (.inl (decide_eq_true hl))
    · rintro ho p w x rfl hl
      exact acceptDecision_accept hf he hd (decide_eq_false (Nat.not_le.mpr hl)) ho
    · rintro ho v rfl hl
      exact acceptDecision_accept hf he hd (decide_eq_false (Nat.not_le.mpr hl)) ho
  · rw [State.readRegister_inboundStatus, State.inboundStatus_executing hl, State.inboundStatus_orphaned hl]
    exact ⟨State.inboundStatus_length hl, by simp, by simp⟩

/-! ## A frame heard from another station (R95, R96, R115, R116) -/

section Heard

variable {s : State} {i : Station}

/-- The medium after the CRC of a good frame (R79, R92, R97). -/
def State.afterFrame (s : State) : State := { s with link := s.link.afterCrc }

theorem State.heard_other (ha : s.link.attached = true) (hl : s.membership.link ≠ .offline) (hp : s.link.phase = .frame)
    (hi : i ≠ s.membership.own) (f : State → State) : s.heard i f = f s.afterFrame := by
  have hf : (s.follows && s.link.phase.receptive) = true := by simp [State.follows, ha, hl, hp, MediumPhase.receptive]
  exact (if_pos hf).trans (if_neg hi)

/-- A frame of another station is taken by what it does after the CRC. -/
theorem running_heard (hr : s.pins.resetLow = false) (ha : s.link.attached = true) (hl : s.membership.link ≠ .offline)
    (hp : s.link.phase = .frame) (hi : i ≠ s.membership.own) {f : State → State} {t : State} (hf : f s.afterFrame = t) :
    running s (State.heard i f) = .next t :=
  running_eq hr ((State.heard_other ha hl hp hi f).trans hf)

theorem State.hear_other (hi : i ≠ s.membership.own) :
    s.hear i =
      if s.membership.roster[i].state = .silent ∨ s.membership.roster[i].state = .departed then
        (s.setRoster i { state := .present, count := 0 }).addEvent (.ofStation .stationReturned i)
      else s.setRoster i { state := .present, count := 0 } := if_neg hi

theorem State.hearLeave_other (hi : i ≠ s.membership.own) :
    s.hearLeave i =
      if s.membership.roster[i].state = .departed then s.setRoster i { state := .departed, count := 0 }
      else (s.setRoster i { state := .departed, count := 0 }).addEvent (.ofStation .stationDeparted i) := if_neg hi

/-! ### The Roster registers (R114, R175) -/

theorem State.readRegister_roster (s : State) (i : Station) :
    s.readRegister (BitVec.ofNat 12 (0x080 + 4 * i.val)) = (s.membership.roster[i]).word := by
  have ha : (BitVec.ofNat 12 (0x080 + 4 * i.val)).toNat = 0x080 + 4 * i.val := by
    rw [BitVec.toNat_ofNat]
    omega
  have hi : Fin.ofNat 16 ((0x080 + 4 * i.val - 0x080) / 4) = i := by
    apply Fin.ext
    simp only [Fin.val_ofNat]
    omega
  have hrange : 0x080 ≤ 0x080 + 4 * i.val ∧ 0x080 + 4 * i.val < 0x0C0 := by omega
  have hne {n : Nat} (hn : n < 0x080) : 0x080 + 4 * i.val ≠ n := by omega
  simp only [State.readRegister, ha, hi, hrange, and_self, if_true]
  rw [if_neg (hne (by decide)), if_neg (hne (by decide)), if_neg (hne (by decide)), if_neg (hne (by decide)),
    if_neg (hne (by decide)), if_neg (hne (by decide)), if_neg (hne (by decide)), if_neg (hne (by decide)),
    if_neg (hne (by decide)), if_neg (hne (by decide)), if_neg (hne (by decide)), if_neg (hne (by decide)),
    if_neg (hne (by decide)), if_neg (hne (by decide)), if_neg (hne (by decide)), if_neg (hne (by decide)),
    if_neg (hne (by decide)), if_neg (hne (by decide)), if_neg (hne (by decide)), if_neg (hne (by decide))]

theorem RosterState.code_le (r : RosterState) : r.code ≤ 4 := by cases r <;> decide

theorem RosterRecord.word_state (r : RosterRecord) : r.word.extractLsb' 0 3 = BitVec.ofNat 3 r.state.code := by
  have hc := r.state.code_le
  refine BitVec.eq_of_toNat_eq ?_
  rw [RosterRecord.word, extractLsb'_ofNat_toNat, BitVec.toNat_ofNat]
  omega

theorem RosterRecord.word_count {r : RosterRecord} (h : r.count ≤ 7) : (r.word.extractLsb' 8 3).toNat = r.count := by
  have hc := r.state.code_le
  rw [RosterRecord.word, extractLsb'_ofNat_toNat]
  omega

end Heard

/-- Settles O43: the hearing, the Roster registers and the purge, each by its equation. -/
theorem aGoodFrameIsAHearingAndMembershipFramesPurge : Obligations.AGoodFrameIsAHearingAndMembershipFramesPurge := by
  refine ⟨fun i f s hr ha hl hp hi => ?_, fun i s => ?_, fun i s => ?_⟩
  · intro was heard returned after
    have hear : s.afterFrame.hear i = after := State.hear_other (s := s.afterFrame) hi
    refine ⟨running_heard hr ha hl hp hi hear, ?_, running_heard hr ha hl hp hi ?_, running_heard hr ha hl hp hi ?_⟩
    · rintro rfl
      exact running_heard hr ha hl hp hi hear
    · rw [hear]
    · rw [State.hearLeave_other (s := s.afterFrame) hi]
      rfl
  · rw [State.readRegister_roster]
    exact ⟨RosterRecord.word_state _, RosterRecord.word_count⟩
  · refine ⟨(s.purge i).inbound, rfl, rfl, ?_, rfl, fun g => ?_, fun j g hj => ?_⟩
    · have hstay : (fun e : ListEntry => decide (e.source ≠ i) || e.state == .executing) =
          fun e => decide (e.source ≠ i ∨ e.state = .executing) := by
        funext e
        simp only [Bool.decide_or, beq_eq_decide]
      simp only [State.purge, hstay]
    · simp [State.purge]
    · simp [State.purge, Fin.val_inj, hj.symm]

/-! ## A frame for the station (R22, R55, R68, R92) -/

section Addressed

variable {s : State}

theorem State.drive_eq {code : AckCode} (h : code ≠ .nothing) :
    s.drive code = { s with link := { s.link with driving := some code } } := by
  rw [State.drive, if_neg h]

theorem acceptDecision_code (i : Station) (t : Tag) (b : Bool) (o : Offer) (s : State) :
    (acceptDecision i t b o s).1 ≠ .nothing := by
  unfold acceptDecision
  simp only
  split
  · nofun
  split
  · cases o <;> nofun
  split
  · nofun
  split <;> nofun

theorem matchResponse_code (i : Station) (t : Tag) (b : Bool) (st : WireStatus) (data : List Word) (s : State) :
    (matchResponse i t b st data s).1 ≠ .nothing := by
  unfold matchResponse
  split
  · split <;> nofun
  · nofun

theorem State.hear_takesPart (i : Station) : (s.hear i).takesPart = s.takesPart := by
  obtain ⟨r, q, e⟩ := s.hear_touches i
  rw [e]
  rfl

/-- The decision on an offer, and its code in the slot (R92). -/
theorem State.decideOffer_takesPart (h : s.takesPart = true) (i : Station) (t : Tag) (b : Bool) (o : Offer) :
    s.decideOffer i t b o =
      { (acceptDecision i t b o (s.hear i)).2 with
        link := { (acceptDecision i t b o (s.hear i)).2.link with
          driving := some (acceptDecision i t b o (s.hear i)).1 } } := by
  rw [State.decideOffer, State.hear_takesPart, if_pos h, State.drive_eq (acceptDecision_code i t b o _)]

theorem State.decideOffer_other (h : s.takesPart = false) (i : Station) (t : Tag) (b : Bool) (o : Offer) :
    s.decideOffer i t b o = s.hear i := by
  simp only [State.decideOffer, State.hear_takesPart, h, Bool.false_eq_true, if_false]

/-- A response is matched, its code is in the slot, and then comes what an end brings about (R68, R92, R127). -/
theorem State.answer_takesPart (h : s.takesPart = true) (i : Station) (t : Tag) (b : Bool) (st : WireStatus)
    (data : List Word) :
    s.answer i t b st data =
      ({ (matchResponse i t b st data (s.hear i)).2 with
        link := { (matchResponse i t b st data (s.hear i)).2.link with
          driving := some (matchResponse i t b st data (s.hear i)).1 } } : State).followThrough := by
  simp only [State.answer, State.hear_takesPart, h, if_true, State.drive_eq (matchResponse_code i t b st data _)]

theorem State.answer_other (h : s.takesPart = false) (i : Station) (t : Tag) (b : Bool) (st : WireStatus)
    (data : List Word) : s.answer i t b st data = s.hear i := by
  simp only [State.answer, State.hear_takesPart, h, Bool.false_eq_true, if_false]

end Addressed

/-- Settles O45: each frame is heard, and then decided by its owner where the station takes part. -/
theorem addressedFramesAreDecidedAndAnswered : Obligations.AddressedFramesAreDecidedAndAnswered := by
  intro i g b p w n items op v st data s hr ha hl hp hi hn1 hn16 hw1 hw16 hd was present h driven
  have hear : s.afterFrame.hear i = h := State.hear_other (s := s.afterFrame) hi
  have part : h.takesPart = s.takesPart := hear ▸ State.hear_takesPart (s := s.afterFrame) i
  refine ⟨fun hin => ?_, fun ho hdr => ?_⟩
  · have hin : s.takesPart = true := by simpa [State.takesPart] using hin
    have hin' : s.afterFrame.takesPart = true := hin
    have decided (o : Offer) : s.afterFrame.decideOffer i g b o = driven (acceptDecision i g b o h) := by
      rw [State.decideOffer_takesPart hin', hear]
    refine ⟨running_heard hr ha hl hp hi ((if_pos ⟨hn1, hn16⟩).trans (decided _)),
      running_heard hr ha hl hp hi ((if_pos ⟨hw1, hw16⟩).trans (decided _)), running_heard hr ha hl hp hi (decided _),
      running_heard hr ha hl hp hi (decided _), running_heard hr ha hl hp hi ?_, running_heard hr ha hl hp hi ?_⟩
    · simp only [hear, part.trans hin, if_true]
      rfl
    · rw [if_pos hd, State.answer_takesPart hin', hear]
  · have hout : s.takesPart = false := by simp [State.takesPart, ho, hdr]
    have hout' : s.afterFrame.takesPart = false := hout
    have decided (o : Offer) : s.afterFrame.decideOffer i g b o = h := by
      rw [State.decideOffer_other hout', hear]
    refine ⟨running_heard hr ha hl hp hi ((if_pos ⟨hn1, hn16⟩).trans (decided _)),
      running_heard hr ha hl hp hi ((if_pos ⟨hw1, hw16⟩).trans (decided _)), running_heard hr ha hl hp hi (decided _),
      running_heard hr ha hl hp hi (decided _), running_heard hr ha hl hp hi ?_, running_heard hr ha hl hp hi ?_⟩
    · simp only [hear, part.trans hout, Bool.false_eq_true, if_false]
    · rw [if_pos hd, State.answer_other hout', hear]

end Sys2Proof.Machine

/-! SUPPORT. The end of an execution for an orphan and for the own station (R35, R37, R72), and the ends of marked cycles (R156,
R157). -/

namespace Sys2Proof.Machine

/-- The record of a removed reply, whatever it holds (R32). -/
theorem State.closeFilter_eq (i : Station) (t : Tag) (b : Bool) (s : State) :
    s.closeFilter i t b =
      { s with
        inbound :=
          { s.inbound with
            filter :=
              if s.inbound.filter[i][t] = { issue := b, state := .opened } then
                s.inbound.filter.set i (s.inbound.filter[i].set t { issue := b, state := .closed })
              else s.inbound.filter } } := by
  unfold State.closeFilter State.filterAt
  split_ifs <;> rfl

section Executing

variable {s : State} {pre post : List ListEntry} {e : ListEntry}

theorem executes.removeExecuting_eq (h : executes s.inbound.list pre e post) :
    s.removeExecuting = s.withList (pre ++ post) s.inbound.replyOrder := by
  obtain ⟨hl, he, hn⟩ := h
  have hf : (pre ++ e :: post).filter (fun e => decide (e.state ≠ .executing)) = pre ++ post :=
    filter_at (by simp [he]) fun f hf => by simp [hn f hf]
  rw [State.removeExecuting, hl, hf]
  rfl

/-- The state in which the end of an execution has been recorded (R30). -/
def State.recorded (e : ListEntry) (w : WireStatus) (s : State) : State := if w = .ok then s else s.addEvent (.rejected e w)

theorem State.recorded_inbound (e : ListEntry) (w : WireStatus) (s : State) : (s.recorded e w).inbound = s.inbound := by
  unfold State.recorded
  split <;> rfl

theorem State.recorded_membership (e : ListEntry) (w : WireStatus) (s : State) :
    (s.recorded e w).membership = s.membership := by
  unfold State.recorded
  split <;> rfl

theorem executes.recorded (h : executes s.inbound.list pre e post) (w : WireStatus) :
    executes (s.recorded e w).inbound.list pre e post := by
  rwa [State.recorded_inbound]

/-- An orphan leaves the list when its execution ends, and a drain may end with it (R37, R109). -/
theorem executes.endExecution_orphan (h : executes s.inbound.list pre e post) (ho : e.orphaned = true) (w : WireStatus)
    (data : List Word) :
    s.endExecution w data = ((s.recorded e w).withList (pre ++ post) s.inbound.replyOrder).checkDrain := by
  have hr := (h.recorded w).removeExecuting_eq
  rw [State.recorded_inbound] at hr
  rw [← hr, State.endExecution, h.executing_eq]
  exact if_pos ho

/-- The reply of the own station is matched at once; then its entry goes, with its record closed, and then what the end brings
about (R35, R72, R127). -/
theorem executes.endExecution_own (h : executes s.inbound.list pre e post) (ho : e.orphaned = false)
    (hs : e.source = s.membership.own) (w : WireStatus) (data : List Word) :
    s.endExecution w data =
      ({ (matchResponse e.source e.tag e.issue w data (s.recorded e w)).2 with
        inbound :=
          { s.inbound with
            list := pre ++ post
            filter :=
              if s.inbound.filter[e.source][e.tag] = { issue := e.issue, state := .opened } then
                s.inbound.filter.set e.source
                  (s.inbound.filter[e.source].set e.tag { issue := e.issue, state := .closed })
              else s.inbound.filter } } : State).followThrough := by
  have hown : e.source = (s.recorded e w).membership.own := by rw [State.recorded_membership, hs]
  have hend : s.endExecution w data = (s.recorded e w).loopbackReply e w data := by
    rw [State.endExecution, h.executing_eq]
    exact (if_neg (by simp [ho])).trans (if_pos hown)
  have hin : (matchResponse e.source e.tag e.issue w data (s.recorded e w)).2.inbound = s.inbound := by
    obtain ⟨_, _, _, _, _, hm, -⟩ := matchResponse_touches (s.recorded e w) e.source e.tag e.issue w data
    rw [hm]
    exact State.recorded_inbound e w s
  rw [hend, State.loopbackReply]
  generalize (matchResponse e.source e.tag e.issue w data (s.recorded e w)).2 = m at hin ⊢
  have hx : executes m.inbound.list pre e post := by rwa [hin]
  rw [hx.removeExecuting_eq, State.closeFilter_eq]
  simp only [State.withList, hin]

end Executing

/-! ## Data cycles (R30, R154) -/

theorem Cycle.isPlainData_of {c : Cycle} (hr : c.requester = .engine) (hd : c.discard = .clear)
    (hk : (∃ n, c.request.kind = .dataRead n) ∨ ∃ ws, c.request.kind = .maskedWrite ws) : c.isPlainData = true := by
  obtain ⟨n, hk⟩ | ⟨ws, hk⟩ := hk <;> simp [Cycle.isPlainData, hr, hd, hk]

theorem State.dataEnded_eq (r : ReadResult) (s : State) :
    s.dataEnded r =
      s.endExecution (if r.outcome = .ok then .ok else .memoryError) (if r.outcome = .ok then r.words else []) := by
  unfold State.dataEnded
  split_ifs <;> rfl

/-- Settles O51: the end of an execution by its three cases, and the end of a data cycle as that end. -/
theorem dataCycleEndMakesTheReplyReady : Obligations.DataCycleEndMakesTheReplyReady := by
  refine ⟨fun pre post e w data s hx => ?_, fun ts c pre post e s hl hc hr hd hk _ => ?_⟩
  · intro h
    exact ⟨fun ho => hx.endExecution_orphan ho w data, fun ho hs => hx.endExecution_other hs ho w data,
      fun ho hs => hx.endExecution_own ho hs w data⟩
  · intro r h st data
    refine running_eq hl ?_
    rw [State.endCycle_clear hc (Cycle.isPlainData_of hr hd hk) hd, State.dataEnded_eq]

/-! ## Marked cycles (R39, R156, R157) -/

section Marked

variable {s : State} {c : Cycle}

theorem State.handOver_marked (hd : c.discard ≠ .clear) (r : ReadResult) (f : ReadResult → State → State) (s : State) :
    s.handOver c r f = (State.discardEnded c { s with memory := r.memory }).portNext := by
  rw [State.handOver]
  simp only [if_neg hd]

theorem State.endCycle_marked (hc : s.port.current = some c) {meant : Cycle → Bool} (hm : meant c = true)
    (hd : c.discard ≠ .clear) (ts : List Transfer) (f : Cycle → ReadResult → State → State) :
    s.endCycle meant ts f = (State.discardEnded c { s with memory := (c.run ts s.memory).memory }).portNext := by
  simp only [State.endCycle, hc, hm, if_true, State.handOver_marked hd]

theorem State.discardEnded_bySoftReset (hd : c.discard = .bySoftReset) (s : State) : s.discardEnded c = s :=
  if_neg (by simp [hd])

theorem State.discardEnded_mapCycle (hk : c.request.kind.isData = false) (s : State) : s.discardEnded c = s :=
  if_neg (by simp [hk])

theorem executes.discardEnded_eq {pre post : List ListEntry} {e : ListEntry} (h : executes s.inbound.list pre e post)
    (hd : c.discard = .byConflict) (hk : c.request.kind.isData = true) :
    s.discardEnded c = (s.withList (pre ++ post) s.inbound.replyOrder).checkDrain := by
  rw [← h.removeExecuting_eq]
  exact if_pos ⟨hd, hk⟩

/-- What the end of a marked locked cycle leaves (R47, R156, R157). -/
theorem State.discardEnded_locked {op : AtomicOp} (hk : c.request.kind = .locked op) (s : State) :
    (c.discard = .bySoftReset → (s.discardEnded c).portNext = s.portNext) ∧
    (∀ pre e post, c.discard = .byConflict → executes s.inbound.list pre e post →
      (s.discardEnded c).portNext = (s.withList (pre ++ post) s.inbound.replyOrder).checkDrain.portNext) := by
  refine ⟨fun hd => by rw [State.discardEnded_bySoftReset hd], fun pre e post hd hx => ?_⟩
  rw [hx.discardEnded_eq hd (by rw [hk]; rfl)]

theorem readTransfers_one (a : Word) (t : Transfer) (m : List Host.Cell) :
    readTransfers 1 a [t] m =
      { outcome := t.reply, words := if t.reply = .ok then [readWord (writeOthers t.others m) a] else []
        memory := writeOthers t.others m } := by
  simp only [readTransfers, firstTransfer, List.headD_cons]
  cases h : t.reply <;> simp

/-- The lock keeps other masters out of the write phase (R153, R155). -/
theorem writeTransfers_one_locked (w : MaskedWord) (a : Word) (t : Transfer) (m : List Host.Cell) :
    (writeTransfers [w] a [Transfer.locked t] m).2 = if t.reply = .ok ∨ t.landed = true then writeLanes m a w.mask w.data else m := by
  simp only [writeTransfers, firstTransfer, List.headD_cons, Transfer.locked, writeOthers]
  cases h : t.reply <;> simp [writeIf]

theorem exec_lockedReadPhaseEnd (hl : s.pins.resetLow = false) (hc : s.port.current = some c) {op : AtomicOp}
    (hk : c.request.kind = .locked op) (ho : c.old = none) (t : Transfer) :
    exec (.lockedReadPhaseEnd t) s = .next (s.endReadPhase c op t) := by
  have hrun : exec (.lockedReadPhaseEnd t) s = execLockedReadPhaseEnd t s := rfl
  rw [hrun, execLockedReadPhaseEnd, running_high _ hl]
  simp only [hc, hk, ho]

/-- The read phase of a locked cycle goes on to its write phase where there is a value to store (R153). -/
theorem State.endReadPhase_stores {op : AtomicOp} {t : Transfer} {v : Word} (hr : t.reply = .ok)
    (hv : op.newValue (readWord (writeOthers t.others s.memory) c.request.addr) = some v) :
    s.endReadPhase c op t =
      { s with
        memory := writeOthers t.others s.memory
        port := { s.port with
          current := some { c with old := some (readWord (writeOthers t.others s.memory) c.request.addr) } } } := by
  simp only [State.endReadPhase, readTransfers_one, hr, if_true, List.headD_cons, hv, Option.isSome_some, and_self]

/-- A marked locked cycle ends with its read phase where that fails or stores nothing (R45, R47). -/
theorem State.endReadPhase_marked (hd : c.discard ≠ .clear) {op : AtomicOp} {t : Transfer}
    (h : t.reply ≠ .ok ∨ op.newValue (readWord (writeOthers t.others s.memory) c.request.addr) = none) :
    s.endReadPhase c op t = (State.discardEnded c { s with memory := writeOthers t.others s.memory }).portNext := by
  simp only [State.endReadPhase, readTransfers_one, State.handOver_marked hd]
  refine if_neg fun ⟨hok, hv⟩ => ?_
  obtain h | h := h
  · exact h hok
  · simp [hok, h] at hv

/-- What the write phase of a locked cycle leaves in memory (R46, R153). -/
theorem Cycle.run_writePhase_memory {op : AtomicOp} {old v : Word} (hk : c.request.kind = .locked op) (ho : c.old = some old)
    (hv : op.newValue old = some v) (t : Transfer) (m : List Host.Cell) :
    (c.run [t] m).memory = if t.reply = .ok ∨ t.landed = true then writeLanes m c.request.addr Lanes.all v else m := by
  rw [← writeTransfers_one_locked { mask := Lanes.all, data := v }]
  simp only [Cycle.run, hk, ho, hv, List.map_cons, List.map_nil]

end Marked

/-- Settles O55: a marked cycle at its end, and the two phases of a marked locked cycle. -/
theorem markedCyclesHandNothingOver : Obligations.MarkedCyclesHandNothingOver := by
  refine ⟨fun ts c s hl hc => ?_, fun t c op s hl hc hd hk => ⟨fun ho => ?_, fun old v ho hv => ?_⟩⟩
  · intro h
    have ends (hd : c.discard ≠ .clear) : exec (.discardedCycleEnd ts) s = .next (h.discardEnded c).portNext :=
      running_eq hl (State.endCycle_marked hc (by simp [hd]) hd ts _)
    refine ⟨fun hd => ?_, fun hd hk => ?_, fun pre e post hd hk hx => ?_⟩
    · rw [ends (by simp [hd]), State.discardEnded_bySoftReset hd]
    · rw [ends (by simp [hd]), State.discardEnded_mapCycle hk]
    · have hx : executes h.inbound.list pre e post := hx
      rw [ends (by simp [hd]), hx.discardEnded_eq hd hk]
  · intro m old h
    have hend := exec_lockedReadPhaseEnd hl hc hk ho t
    obtain ⟨soft, conflict⟩ := State.discardEnded_locked hk h
    refine ⟨fun v hr hv => hend.trans (congrArg _ (State.endReadPhase_stores hr hv)), fun hstop => ?_⟩
    rw [hend, State.endReadPhase_marked hd hstop]
    exact ⟨fun hs => congrArg _ (soft hs), fun pre e post hcf hx => congrArg _ (conflict pre e post hcf hx)⟩
  · intro stored h
    have hm : ({ s with memory := (c.run [t] s.memory).memory } : State) = h := by
      rw [Cycle.run_writePhase_memory hk ho hv]
      simp only [h, stored]
      split <;> rfl
    have hend : exec (.lockedWritePhaseEnd t) s = .next (h.discardEnded c).portNext := by
      refine running_eq hl ?_
      rw [State.endCycle_marked hc (by simp [Cycle.inWritePhase, hk, ho]) hd, hm]
    have hlist : h.inbound = s.inbound := by rw [← hm]
    obtain ⟨soft, conflict⟩ := State.discardEnded_locked hk h
    rw [hend]
    refine ⟨fun hs => congrArg _ (soft hs), fun pre e post hcf hx => ?_⟩
    rw [conflict pre e post hcf (by rwa [hlist]), hlist]

end Sys2Proof.Machine

/-! SUPPORT. The reply entries of the list by their one place (R31 to R33), what becomes of the own frame (R86 to R93), the
intervals that end (R33, R65, R67, R71), and the frame that a transmit opportunity offers (R90). -/

namespace Sys2Proof.Machine

/-! ## Reply entries (R31 to R33) -/

section Replies

variable {s : State} {pre post : List ListEntry} {e : ListEntry}

/-- A change of one reply entry leaves every other entry and the reply order. -/
theorem State.updateReply_at (hl : s.inbound.list = pre ++ e :: post) {st : ListState} (he : e.state = st)
    (hn : ∀ x ∈ pre ++ post, ¬(x.source = e.source ∧ x.tag = e.tag ∧ x.state = st)) (f : ListEntry → ListEntry) :
    s.updateReply e.source e.tag st f = s.withList (pre ++ f e :: post) s.inbound.replyOrder := by
  have hm := map_update_at (p := fun x : ListEntry => x.source = e.source ∧ x.tag = e.tag ∧ x.state = st) (g := f)
    ⟨rfl, rfl, he⟩ hn
  rw [State.updateReply, hl, hm]
  rfl

/-- The one reply entry that is on the air (R31, R91). -/
def onAirAt (list pre : List ListEntry) (e : ListEntry) (post : List ListEntry) : Prop :=
  list = pre ++ e :: post ∧ e.state = .replyOnAir ∧ ∀ x ∈ pre ++ post, x.state ≠ .replyOnAir

theorem onAirAt.updateReply_eq (h : onAirAt s.inbound.list pre e post) (f : ListEntry → ListEntry) :
    s.updateReply e.source e.tag .replyOnAir f = s.withList (pre ++ f e :: post) s.inbound.replyOrder :=
  State.updateReply_at h.1 h.2.1 (fun x hx hk => h.2.2 x hx hk.2.2) f

theorem onAirAt.replyOnAir_eq (h : onAirAt s.inbound.list pre e post) : s.replyOnAir e.source e.tag = some e := by
  obtain ⟨hl, he, hn⟩ := h
  rw [State.replyOnAir, hl]
  exact find?_at (by simp [he]) fun f hf => by simp [hn f (by simp [hf])]

/-- The state in which a reply entry has left the list with its record closed, and a drain may have ended (R32, R33, R109). -/
def State.withoutReply (pre post : List ListEntry) (e : ListEntry) (s : State) : State :=
  ({ s with
    inbound :=
      { s.inbound with
        list := pre ++ post
        filter :=
          if s.inbound.filter[e.source][e.tag] = { issue := e.issue, state := .opened } then
            s.inbound.filter.set e.source
              (s.inbound.filter[e.source].set e.tag { issue := e.issue, state := .closed })
          else s.inbound.filter } } : State).checkDrain

theorem onAirAt.removeReply_eq (h : onAirAt s.inbound.list pre e post) :
    s.removeReply e.source e.tag = s.withoutReply pre post e := by
  have hfind := h.replyOnAir_eq
  obtain ⟨hl, he, hn⟩ := h
  have hf : (pre ++ e :: post).filter
      (fun f => !(decide (f.source = e.source) && decide (f.tag = e.tag) && f.state == .replyOnAir)) = pre ++ post :=
    filter_at (by simp [he]) fun f hf => by simp [hn f hf]
  simp only [State.removeReply, hfind, hl, hf, State.closeFilter_eq]
  rfl

/-- A failed attempt of a reply below the limit (R33). -/
theorem onAirAt.failReply_retries (h : onAirAt s.inbound.list pre e post)
    (hn : e.attempts + 1 < s.membership.config.attemptLimit.toNat) :
    s.failReply e.source e.tag =
      s.withList
        (pre ++ { e with
          state := .replyBackoff (64 * (e.attempts + 1) + 8 * s.membership.own.val), attempts := e.attempts + 1 } :: post)
        s.inbound.replyOrder := by
  simp only [State.failReply, h.replyOnAir_eq, if_pos hn, h.updateReply_eq]
  rfl

/-- A failed attempt of a reply at the limit (R33). -/
theorem onAirAt.failReply_givesUp (h : onAirAt s.inbound.list pre e post)
    (hn : s.membership.config.attemptLimit.toNat ≤ e.attempts + 1) :
    s.failReply e.source e.tag = (s.withoutReply pre post e).addEvent (.tagged .replyUndelivered e.source e.tag) := by
  simp only [State.failReply, h.replyOnAir_eq, if_neg (Nat.not_lt.mpr hn), h.removeReply_eq]

end Replies

/-! ## The own frame (R86 to R88) -/

section OwnFrame

variable {s : State} {tx : Transmission}

theorem State.onAir_own (hp : s.link.phase = .own tx) : s.onAir = some tx := by
  simp only [State.onAir, hp]

theorem exec_arbitrationLost (hl : s.pins.resetLow = false) (hp : s.link.phase = .own tx) :
    exec .arbitrationLost s = .next (s.becomeListener.handBack tx.owner) := by
  have hrun : exec .arbitrationLost s = execArbitrationLost s := rfl
  rw [hrun, execArbitrationLost, running_high _ hl]
  simp only [State.onAir_own hp]

theorem exec_readbackAbort (hl : s.pins.resetLow = false) (hp : s.link.phase = .own tx) :
    exec .readbackAbort s = .next (s.becomeListener.abortFrame tx.owner) := by
  have hrun : exec .readbackAbort s = execReadbackAbort s := rfl
  rw [hrun, execReadbackAbort, running_high _ hl]
  simp only [State.onAir_own hp]

theorem State.handBack_transaction {g : Tag} {e : TransEntry} (hg : s.outbound.table[g] = some e) :
    s.handBack (.transaction g) =
      if e.cancel then (s.endEntry g .cancelled []).followThrough
      else { s with
        outbound :=
          { s.outbound with
            table := s.outbound.table.set g (some { e with state := .queued }), queued := g :: s.outbound.queued } } := by
  have he : s.entryAt g = some e := hg
  simp only [State.handBack, he]
  rfl

theorem onAirAt.handBack_eq {pre post : List ListEntry} {e : ListEntry} (h : onAirAt s.inbound.list pre e post) :
    s.handBack (.reply e.source e.tag) =
      s.withList (pre ++ { e with state := .replyReady } :: post) ((e.source, e.tag) :: s.inbound.replyOrder) := by
  simp only [State.handBack, h.updateReply_eq]
  rfl

end OwnFrame

/-- Settles O35: the frame handed back, or its attempt failed, by the owner of the frame. -/
theorem lostArbitrationAndReadbackAbort : Obligations.LostArbitrationAndReadbackAbort := by
  refine ⟨fun f s hl => ?_, fun f s hl => ?_⟩
  · intro h
    refine ⟨fun g e hp hg hc => ?_, fun g e hp hg hc => ?_, fun i g pre post e hp hx hi hg he hn => ?_, ?_⟩
    · rw [exec_arbitrationLost hl hp, State.handBack_transaction (s := s.becomeListener) hg, if_neg (by simp [hc])]
      rfl
    · rw [exec_arbitrationLost hl hp, State.handBack_transaction (s := s.becomeListener) hg, if_pos hc]
      rfl
    · subst hi hg
      have hon : onAirAt s.becomeListener.inbound.list pre e post := ⟨hx, he, hn⟩
      rw [exec_arbitrationLost hl hp, hon.handBack_eq]
      rfl
    · rintro (hp | hp)
      · exact exec_arbitrationLost hl hp
      · exact exec_arbitrationLost hl hp
  · intro h
    refine ⟨fun g hp => exec_readbackAbort hl hp, fun pre post e hp hx he hn => ?_, ?_⟩
    · have hon : onAirAt s.becomeListener.inbound.list pre e post := ⟨hx, he, hn⟩
      have hfail : exec .readbackAbort s = .next (s.becomeListener.failReply e.source e.tag) := exec_readbackAbort hl hp
      exact ⟨fun hlt => hfail.trans (congrArg _ (hon.failReply_retries hlt)),
        fun hle => hfail.trans (congrArg _ (hon.failReply_givesUp hle))⟩
    · rintro (hp | hp)
      · exact exec_readbackAbort hl hp
      · exact exec_readbackAbort hl hp

/-! ## The slot of the own RESPONSE (R32, R33, R93) -/

theorem slotCode_eq_nothing_iff (bits : BitVec 3) :
    slotCode bits = .nothing ↔ ¬(bits = 0b000#3 ∨ bits = 0b001#3 ∨ bits = 0b010#3 ∨ bits = 0b011#3) := by
  revert bits
  decide

/-- ACCEPT and STALE, the codes that end a reply. -/
theorem slotCode_ends_iff (bits : BitVec 3) :
    slotCode bits = .accept ∨ slotCode bits = .stale ↔ bits = 0b000#3 ∨ bits = 0b011#3 := by
  revert bits
  decide

section ReplyAnswered

variable {s : State}

theorem State.hearAnswer_touches (i : Station) (code : AckCode) (s : State) :
    ∃ roster q, s.hearAnswer i code =
      { s with membership := { s.membership with roster := roster }, events := q } := by
  unfold State.hearAnswer
  split
  · exact ⟨_, _, rfl⟩
  · exact s.hear_touches i

theorem State.replyAnswered_ends {code : AckCode} (h : code = .accept ∨ code = .stale) (i : Station) (t : Tag) (s : State) :
    s.replyAnswered i t code = ((s.afterSlot false).hearAnswer i code).removeReply i t := by
  obtain rfl | rfl := h <;> rfl

theorem State.replyAnswered_fails {code : AckCode} (h : ¬(code = .accept ∨ code = .stale)) (i : Station) (t : Tag)
    (s : State) : s.replyAnswered i t code = ((s.afterSlot false).hearAnswer i code).failReply i t := by
  cases code with
  | accept => exact absurd (.inl rfl) h
  | stale => exact absurd (.inr rfl) h
  | busy => rfl
  | refuse => rfl
  | nothing => rfl

theorem exec_replyAcknowledge (hl : s.pins.resetLow = false) {i : Station} {t : Tag} {f : RawFrame}
    (hp : s.link.phase = .own { owner := .reply i t, frame := f }) (bits : BitVec 3) :
    exec (.replyAcknowledge bits) s = .next (s.replyAnswered i t (slotCode bits)) := by
  have hrun : exec (.replyAcknowledge bits) s = execReplyAcknowledge bits s := rfl
  rw [hrun, execReplyAcknowledge, running_high _ hl]
  simp only [State.onAir_own hp]

theorem State.afterSlot_false (s : State) :
    s.afterSlot false = { s with link := { s.link with phase := .ending 1, idleLength := 0, receiveBuffer := .free } } := by
  simp only [State.afterSlot, Bool.or_false]

end ReplyAnswered

/-- Settles O36: the entry is removed by ACCEPT and STALE, and its attempt fails by any other reading. -/
theorem replyAcknowledgeRemovesOrRetries : Obligations.ReplyAcknowledgeRemovesOrRetries := by
  intro bits f pre post e s hl hp hx he hn n h0 h removed
  have hh : (s.afterSlot false).hearAnswer e.source (slotCode bits) = h := by
    rw [State.hearAnswer, State.afterSlot_false]
    simp only [slotCode_eq_nothing_iff, ite_not]
    rfl
  obtain ⟨roster, q, ht⟩ := State.hearAnswer_touches e.source (slotCode bits) (s.afterSlot false)
  rw [hh] at ht
  have hi : h.inbound = s.inbound := by rw [ht]; rfl
  have hlimit : h.membership.config = s.membership.config := by rw [ht]; rfl
  have hown : h.membership.own = s.membership.own := by rw [ht]; rfl
  have hon : onAirAt h.inbound.list pre e post := by rw [hi]; exact ⟨hx, he, hn⟩
  have hremoved : h.withoutReply pre post e = removed := by rw [State.withoutReply, hi]
  rw [exec_replyAcknowledge hl hp]
  refine ⟨fun hb => ?_, fun h1 h2 hlt => ?_, fun h1 h2 hle => ?_⟩
  · rw [State.replyAnswered_ends ((slotCode_ends_iff bits).mpr hb), hh, hon.removeReply_eq, hremoved]
  · have hf := mt (slotCode_ends_iff bits).mp (not_or.mpr ⟨h1, h2⟩)
    rw [State.replyAnswered_fails hf, hh, hon.failReply_retries (by rwa [hlimit]), hown, hi]
  · have hf := mt (slotCode_ends_iff bits).mp (not_or.mpr ⟨h1, h2⟩)
    rw [State.replyAnswered_fails hf, hh, hon.failReply_givesUp (by rwa [hlimit]), hremoved]
    rfl

/-! ## Intervals (R33, R65, R67, R71) -/

section Intervals

variable {s : State} {g : Tag} {e : TransEntry}

theorem State.endBackoff_medium (hg : s.outbound.table[g] = some e) {n : Nat} (hs : e.state = .backoff n)
    (ht : e.target ≠ s.membership.own) :
    s.endBackoff g =
      { s with
        outbound :=
          { s.outbound with
            table := s.outbound.table.set g (some { e with state := .queued })
            queued := s.outbound.queued ++ [g] } } := by
  have he : s.entryAt g = some e := hg
  simp only [State.endBackoff, he, hs, TransState.isBackoff, ht, ne_eq, not_false_eq_true, and_self, if_true]
  rfl

theorem State.timeOut_waiting (hg : s.outbound.table[g] = some e) {n : Nat} (hs : e.state = .waiting n) :
    s.timeOut g = (s.endEntry g .timeout []).followThrough := by
  have he : s.entryAt g = some e := hg
  simp only [State.timeOut, he, hs, TransState.isWaiting, if_true]

theorem State.endReplyBackoff_at {pre post : List ListEntry} {e : ListEntry} {n : Nat}
    (hl : s.inbound.list = pre ++ e :: post) (hs : e.state = .replyBackoff n)
    (hn : ∀ x ∈ pre ++ post, x.source ≠ e.source ∨ x.tag ≠ e.tag) :
    s.endReplyBackoff e.source e.tag =
      s.withList (pre ++ { e with state := .replyReady } :: post) (s.inbound.replyOrder ++ [(e.source, e.tag)]) := by
  have hkey : ∀ x ∈ pre ++ post, x.source = e.source → x.tag ≠ e.tag := fun x hx hxs =>
    (hn x hx).resolve_left fun h => h hxs
  have hfind : (s.inbound.list.find? fun x => decide (x.source = e.source) && decide (x.tag = e.tag) && x.state.isBackoff) =
      some e := by
    rw [hl]
    exact find?_at (by simp [hs, ListState.isBackoff]) fun x hx => by
      by_cases hxs : x.source = e.source
      · simp [hkey x (by simp [hx]) hxs]
      · simp [hxs]
  have hup := State.updateReply_at hl (st := e.state) rfl (fun x hx hk => hkey x hx hk.1 hk.2.1)
    fun x => { x with state := .replyReady }
  simp only [State.endReplyBackoff, hfind, hup]
  rfl

/-- The entry is on the air while the own Inbound Unit answers it (R71). -/
def State.presenting (g : Tag) (e : TransEntry) (s : State) : State := s.setEntry g { e with state := .onAir }

theorem State.endLoopbackBackoff_own (hg : s.outbound.table[g] = some e) {n : Nat} (hs : e.state = .backoff n)
    (ht : e.target = s.membership.own) :
    s.endLoopbackBackoff g = (s.presentLoopback g).followThrough := by
  have he : s.entryAt g = some e := hg
  simp only [State.endLoopbackBackoff, he, hs, TransState.isBackoff, ht, and_self, if_true]

theorem State.presentLoopback_offer (hg : s.outbound.table[g] = some e) (hp : s.takesPart = true) {o : Offer}
    (ho : (s.presenting g e).loopbackOffer e = some o) :
    s.presentLoopback g =
      (acceptDecision s.membership.own g e.issue o (s.presenting g e)).2.afterAttempt g
        (acceptDecision s.membership.own g e.issue o (s.presenting g e)).1 := by
  have he : s.entryAt g = some e := hg
  have hp : (s.presenting g e).takesPart = true := hp
  have ha : (s.presenting g e).loopbackAnswer g e = acceptDecision s.membership.own g e.issue o (s.presenting g e) := by
    rw [State.loopbackAnswer, if_pos hp, ho]
    rfl
  simp only [State.presentLoopback, he]
  rw [← ha]
  rfl

theorem State.presentLoopback_probe (hg : s.outbound.table[g] = some e) (hp : s.takesPart = true) (hb : e.body = .probe) :
    s.presentLoopback g = (s.presenting g e).afterAttempt g .accept := by
  have he : s.entryAt g = some e := hg
  have hp : (s.presenting g e).takesPart = true := hp
  have ha : (s.presenting g e).loopbackAnswer g e = (.accept, s.presenting g e) := by
    rw [State.loopbackAnswer, if_pos hp, State.loopbackOffer, hb]
  simp only [State.presentLoopback, he]
  rw [show (s.setEntry g { e with state := .onAir }).loopbackAnswer g e = (.accept, s.presenting g e) from ha]

/-- ACCEPT ends what awaits no RESPONSE (R64). -/
theorem State.afterAttempt_accept_ends (hg : s.outbound.table[g] = some e) (hb : e.body.awaitsResponse = false) :
    s.afterAttempt g .accept = s.endEntry g .ok [] := by
  have he : s.entryAt g = some e := hg
  simp only [State.afterAttempt, he, hb, Bool.false_eq_true, if_false]

theorem State.presenting_entry (g : Tag) (e : TransEntry) (s : State) :
    (s.presenting g e).outbound.table[g] = some { e with state := .onAir } := by
  simp [State.presenting, State.setEntry]

theorem fullWords_length (v : Vector Word 16) {n : Nat} (hn : n ≤ 16) : (fullWords v n).length = n := by
  simp [fullWords, hn]

theorem fullWords_getElem (v : Vector Word 16) (n : Nat) (i : Fin 16) (hi : i.val < (fullWords v n).length) :
    (fullWords v n)[i.val] = { mask := 0xF#4, data := v[i] } := by
  simp [fullWords]

end Intervals

/-- Settles O37: each interval by its equation, and a loopback entry by what it carries. -/
theorem elapsedIntervalsAct : Obligations.ElapsedIntervalsAct := by
  refine ⟨fun s hl => ⟨fun g e n hg hs ht => ?_, fun g e n hg hs => ?_, fun pre post e n hx hs hn => ?_⟩,
    fun g e n s hl hg hs ht hp => ?_⟩
  · exact running_eq hl (State.endBackoff_medium hg hs ht)
  · exact running_eq hl (State.timeOut_waiting hg hs)
  · exact running_eq hl (State.endReplyBackoff_at hx hs hn)
  · intro h answered
    have hp : s.takesPart = true := by simpa [State.takesPart] using hp
    have answers {o : Offer} (ho : h.loopbackOffer e = some o) : answered o :=
      ⟨ho, running_eq hl ((State.endLoopbackBackoff_own hg hs ht).trans
        (congrArg State.followThrough (State.presentLoopback_offer hg hp ho)))⟩
    refine ⟨fun hb => ?_, fun v hb => answers (by simp only [State.loopbackOffer, hb]),
      fun p o c hb => answers (by simp only [State.loopbackOffer, hb]),
      fun p o op hb => answers (by simp only [State.loopbackOffer, hb]), fun p o c hb => ⟨fun q pre x post hq hx hxq hn => ?_, fun k hk hc => ?_⟩⟩
    · refine running_eq hl ((State.endLoopbackBackoff_own hg hs ht).trans (congrArg State.followThrough ?_))
      rw [State.presentLoopback_probe hg hp hb]
      exact State.afterAttempt_accept_ends (s.presenting_entry g e) (by rw [hb]; rfl)
    · subst hxq
      have hat : h.postedAt x.place = some x := State.postedAt_eq (s := h) hx hn
      exact answers (by simp only [State.loopbackOffer, hb, hq, State.writeItems, hat, Option.map_some, Option.getD_some])
    · refine ⟨fullWords s.slots[k].buffer c, fullWords_length _ hc, answers ?_, fullWords_getElem _ c⟩
      simp only [State.loopbackOffer, hb, hk]
      rfl

/-! ## What a transmit opportunity offers (R31, R62, R90) -/

section Transmit

variable {s : State}

theorem State.headReply_at {pre post : List ListEntry} {e : ListEntry} {rest : List (Station × Tag)}
    (hl : s.inbound.list = pre ++ e :: post) (hs : e.state = .replyReady)
    (hn : ∀ x ∈ pre ++ post, x.source ≠ e.source ∨ x.tag ≠ e.tag) (ho : s.inbound.replyOrder = (e.source, e.tag) :: rest) :
    s.headReply = some e := by
  simp only [State.headReply, ho, hl]
  refine find?_at (by simp [hs]) fun x hx => ?_
  have hne : (x.source, x.tag) ≠ (e.source, e.tag) := fun h => by
    rw [Prod.mk.injEq] at h
    exact (hn x (by simp [hx])).elim (fun k => k h.1) fun k => k h.2
  simp [hne]

theorem State.headReply_none (h : s.inbound.replyOrder = []) : s.headReply = none := by
  simp only [State.headReply, h]

theorem State.pendingMembership_announce (h : s.membership.announcePending = true) :
    s.pendingMembership =
      some { owner := .announce, frame := membershipFrame s.membership.own (.announce Config.protocolLevel) } := if_pos h

theorem State.pendingMembership_leave (ha : s.membership.announcePending = false) (h : s.membership.leavePending = true) :
    s.pendingMembership = some { owner := .leave, frame := membershipFrame s.membership.own .leave } := by
  simp only [State.pendingMembership, ha, h, Bool.false_eq_true, if_false, if_true]

theorem State.pendingMembership_none (ha : s.membership.announcePending = false) (h : s.membership.leavePending = false) :
    s.pendingMembership = none := by
  simp only [State.pendingMembership, ha, h, Bool.false_eq_true, if_false]

/-- ONLINE or DRAINING, in which requests and replies are offered (R90). -/
abbrev State.serves (s : State) : Prop := s.membership.link = .online ∨ s.membership.link = .draining

theorem State.offered_reply (h : s.serves) {e : ListEntry} (hr : s.headReply = some e) :
    s.offered = some { owner := .reply e.source e.tag, frame := replyFrame s.membership.own e } := by
  obtain h | h := h <;> simp only [State.offered, h, hr]

theorem State.offered_membership (h : s.serves) (hr : s.headReply = none) {tx : Transmission}
    (hm : s.pendingMembership = some tx) : s.offered = some tx := by
  obtain h | h := h <;> simp only [State.offered, h, hr, hm]

theorem State.offered_request (h : s.serves) (hr : s.headReply = none) (hm : s.pendingMembership = none) :
    s.offered = s.headRequest.map fun r => { owner := .transaction r.1, frame := s.requestFrame r.1 r.2 } := by
  obtain h | h := h <;> simp only [State.offered, h, hr, hm]

theorem State.offered_announcing (h : s.membership.link = .announcing) : s.offered = s.pendingMembership := by
  simp only [State.offered, h]

theorem State.offered_quiet (h : s.membership.link = .listening ∨ s.membership.link = .conflict) : s.offered = none := by
  obtain h | h := h <;> simp only [State.offered, h]

theorem State.headRequest_some {g : Tag} {rest : List Tag} {e : TransEntry} (hq : s.outbound.queued = g :: rest)
    (hg : s.outbound.table[g] = some e) (hs : s.link.spent = false) : s.headRequest = some (g, e) := by
  have he : s.entryAt g = some e := hg
  simp only [State.headRequest, hq, hs, Bool.false_eq_true, if_false, he, Option.map_some]

theorem State.headRequest_none (h : s.link.spent = true ∨ s.outbound.queued = []) : s.headRequest = none := by
  unfold State.headRequest
  split
  · rfl
  · rename_i hq
    obtain h | h := h
    · exact if_pos h
    · rw [h] at hq
      cases hq

/-- The medium while the station sends a frame, which passes through the receive buffer as well (R81, R91, R97). -/
def LinkUnit.sending (u : LinkUnit) (tx : Transmission) : LinkUnit :=
  { u with phase := .own tx, idleLength := 0, receiveBuffer := .holds tx.frame, driving := none }

theorem State.startFrame_reply {pre post : List ListEntry} {e : ListEntry} {rest : List (Station × Tag)}
    (hl : s.inbound.list = pre ++ e :: post) (hs : e.state = .replyReady)
    (hn : ∀ x ∈ pre ++ post, x.source ≠ e.source ∨ x.tag ≠ e.tag) (ho : s.inbound.replyOrder = (e.source, e.tag) :: rest)
    (f : RawFrame) :
    s.startFrame { owner := .reply e.source e.tag, frame := f } =
      ({ s with link := s.link.sending { owner := .reply e.source e.tag, frame := f } } : State).withList
        (pre ++ { e with state := .replyOnAir } :: post) rest := by
  have hup := State.updateReply_at hl hs (fun x hx hk => (hn x hx).elim (fun k => k hk.1) fun k => k hk.2.1)
    fun x => { x with state := .replyOnAir }
  simp only [State.startFrame, State.goOnAir, hup, State.withList, ho, List.tail_cons]
  rfl

theorem State.startFrame_transaction {g : Tag} {rest : List Tag} {e : TransEntry} (hq : s.outbound.queued = g :: rest)
    (hg : s.outbound.table[g] = some e) (f : RawFrame) :
    s.startFrame { owner := .transaction g, frame := f } =
      { s with
        link := s.link.sending { owner := .transaction g, frame := f }
        outbound :=
          { s.outbound with
            table := s.outbound.table.set g (some { e with state := .onAir }), queued := rest } } := by
  have he : s.entryAt g = some e := hg
  simp only [State.startFrame, State.goOnAir, State.setTransState, he, State.setEntry, hq, List.tail_cons]
  rfl

/-- The state at a transmit opportunity: the medium idle for the inter-frame gap at least (R81). -/
def State.opportune (s : State) : State := { s with link := s.link.idleFor Config.interFrameGap }

theorem LinkUnit.idleFor_idle {u : LinkUnit} (h : u.phase = .idle) (n : Nat) :
    u.idleFor n = { u with idleLength := max u.idleLength n, driving := none } := by
  simp only [LinkUnit.idleFor, LinkUnit.idleSoFar, h, if_true]

theorem State.transmit_eq (ha : s.link.attached = true) (hp : s.link.phase = .idle) (hl : s.membership.link ≠ .offline) :
    s.transmit = (s.opportune.offered.map fun tx => s.opportune.startFrame tx).getD s.opportune := by
  have hf : (s.follows && s.link.phase.quiet) = true := by simp [State.follows, ha, hp, hl, MediumPhase.quiet]
  unfold State.transmit
  rw [if_pos hf]
  show (match s.opportune.offered with | some tx => s.opportune.startFrame tx | none => s.opportune) = _
  cases s.opportune.offered <;> rfl

theorem exec_transmit_starts (hr : s.pins.resetLow = false) (ha : s.link.attached = true) (hp : s.link.phase = .idle)
    (hl : s.membership.link ≠ .offline) {tx : Transmission} (ho : s.opportune.offered = some tx) :
    exec .transmitOpportunity s = .next (s.opportune.startFrame tx) := by
  refine running_eq hr ?_
  rw [State.transmit_eq ha hp hl, ho]
  rfl

theorem exec_transmit_idles (hr : s.pins.resetLow = false) (ha : s.link.attached = true) (hp : s.link.phase = .idle)
    (hl : s.membership.link ≠ .offline) (ho : s.opportune.offered = none) :
    exec .transmitOpportunity s =
      .next { s with link := { s.link with idleLength := max s.link.idleLength 11, driving := none } } := by
  refine running_eq hr ?_
  rw [State.transmit_eq ha hp hl, ho, ← LinkUnit.idleFor_idle hp]
  rfl

end Transmit

/-- Settles O38: what is offered in each link state, and the frame that starts or the medium that stays idle. -/
theorem transmitOpportunityOffersTheHeadFrame : Obligations.TransmitOpportunityOffersTheHeadFrame := by
  intro s hr ha hp idle sending membership announce
  have starts {tx : Transmission} (hl : s.membership.link ≠ .offline) (ho : s.opportune.offered = some tx) :=
    exec_transmit_starts hr ha hp hl ho
  have idles (hl : s.membership.link ≠ .offline) (ho : s.opportune.offered = none) := exec_transmit_idles hr ha hp hl ho
  refine ⟨fun hs => ?_, fun hs => ?_, fun hs => ?_⟩
  · have hl : s.membership.link ≠ .offline := by obtain h | h := hs <;> simp [h]
    have hs : s.opportune.serves := hs
    refine ⟨fun pre post e rest hx he hn ho => ?_, fun ho hm => ?_, fun ho hm hv => ?_, fun ho hm hv => ⟨?_, fun hq => ?_⟩⟩
    · have hx : s.opportune.inbound.list = pre ++ e :: post := hx
      have ho : s.opportune.inbound.replyOrder = (e.source, e.tag) :: rest := ho
      rw [starts hl (State.offered_reply hs (State.headReply_at hx he hn ho)), State.startFrame_reply hx he hn ho]
      rfl
    · exact starts hl (State.offered_membership hs (State.headReply_none ho) (State.pendingMembership_announce hm))
    · exact starts hl (State.offered_membership hs (State.headReply_none ho) (State.pendingMembership_leave hm hv))
    · intro g e rest hq hg hspent
      have hq : s.opportune.outbound.queued = g :: rest := hq
      have hg : s.opportune.outbound.table[g] = some e := hg
      have hoff := State.offered_request hs (State.headReply_none ho) (State.pendingMembership_none hm hv)
      rw [State.headRequest_some hq hg hspent] at hoff
      rw [starts hl hoff, State.startFrame_transaction hq hg]
      rfl
    · refine idles hl ?_
      rw [State.offered_request hs (State.headReply_none ho) (State.pendingMembership_none hm hv),
        State.headRequest_none (s := s.opportune) hq]
      rfl
  · have hl : s.membership.link ≠ .offline := by simp [hs]
    have hann : s.opportune.offered = s.opportune.pendingMembership := State.offered_announcing hs
    exact ⟨fun hm => starts hl (hann.trans (State.pendingMembership_announce hm)),
      fun hm hv => idles hl (hann.trans (State.pendingMembership_none hm hv))⟩
  · have hl : s.membership.link ≠ .offline := by obtain h | h := hs <;> simp [h]
    exact idles hl (State.offered_quiet hs)

end Sys2Proof.Machine

/-! SUPPORT. The presentation of a slot (R141, R142): the checks, the allocation of the lowest free tag, and the transaction of
each kind. -/

namespace Sys2Proof.Machine

/-! ## The checks of a presentation (R59, R60) -/

section Presentation

variable {s : State} {k : SlotNo} {body : TransBody}

theorem State.presentSlot_due (hs : s.slots[k].state = .fence []) (hb : s.slots[k].transaction = some body) :
    s.presentSlot k = s.present (.slot k) s.slots[k].target body := by
  simp only [State.presentSlot, hs, hb]

theorem State.presentationCheck_down (hl : s.membership.link ≠ .online) (k : SlotNo) (target : Station) (body : TransBody) :
    s.presentationCheck (.slot k) target body = some .linkDown := by
  simp [State.presentationCheck, hl]

theorem State.presentationCheck_silent {target : Station} (hl : s.membership.link = .online) (hb : body ≠ .probe)
    (hr : s.membership.roster[target].state = .silent) (k : SlotNo) :
    s.presentationCheck (.slot k) target body = some .stationSilent := by
  simp only [State.presentationCheck, hl, true_or, if_true, hb, if_false, hr]

theorem State.presentationCheck_departed {target : Station} (hl : s.membership.link = .online) (hb : body ≠ .probe)
    (hr : s.membership.roster[target].state = .departed) (k : SlotNo) :
    s.presentationCheck (.slot k) target body = some .stationDeparted := by
  simp only [State.presentationCheck, hl, true_or, if_true, hb, if_false, hr]

theorem State.presentationCheck_passes {target : Station} (hl : s.membership.link = .online)
    (hb : body = .probe ∨ s.membership.roster[target].state ≠ .silent ∧ s.membership.roster[target].state ≠ .departed)
    (k : SlotNo) : s.presentationCheck (.slot k) target body = none := by
  simp only [State.presentationCheck, hl, true_or, if_true]
  split
  · rfl
  · rename_i hn
    obtain ⟨h1, h2⟩ := hb.resolve_left hn
    cases h : s.membership.roster[target].state <;> simp_all

/-- A slot that ends without OK (R143). -/
theorem Slot.finish_failed {st : Status} (h : st ≠ .ok) (sl : Slot) (data : List Word) :
    sl.finish st data = { sl with state := .done, status := some st, cancelPending := false } := if_neg h

theorem State.presentSlot_ends (hs : s.slots[k].state = .fence []) (hb : s.slots[k].transaction = some body) {st : Status}
    (hc : s.presentationCheck (.slot k) s.slots[k].target body = some st) (hst : st ≠ .ok) :
    s.presentSlot k =
      { s with
        slots := s.slots.set k { s.slots[k] with state := .done, status := some st, cancelPending := false } } := by
  rw [State.presentSlot_due hs hb, State.present, hc, ← Slot.finish_failed hst s.slots[k] []]
  rfl

/-! ## Allocation (R57, R61, R71) -/

/-- The slot's transaction is in the table from now on (R137). -/
def State.slotTaken (k : SlotNo) (s : State) : State :=
  { s with slots := s.slots.set k { s.slots[k] with state := .entry } }

theorem State.presentSlot_allocates (hs : s.slots[k].state = .fence []) (hb : s.slots[k].transaction = some body)
    (hc : s.presentationCheck (.slot k) s.slots[k].target body = none) {g : Tag} (hg : s.lowestFree g) :
    s.presentSlot k =
      if s.slots[k].target = s.membership.own then
        ((s.slotTaken k).withNewEntry g (.slot k) s.slots[k].target body .onAir s.outbound.queued).presentLoopback g
      else (s.slotTaken k).withNewEntry g (.slot k) s.slots[k].target body .queued (s.outbound.queued ++ [g]) := by
  rw [State.presentSlot_due hs hb, State.present, hc]
  simp only [State.allocate, State.freeTag_eq hg.1 hg.2, decide_eq_true_eq]
  split_ifs <;> rfl

theorem State.withNewEntry_entry (g : Tag) (o : Origin) (target : Station) (body : TransBody) (st : TransState)
    (queued : List Tag) (s : State) :
    (s.withNewEntry g o target body st queued).outbound.table[g] =
      some { issue := !s.outbound.issueBits[g], origin := o, target := target, body := body, state := st
             attempts := 0, lastCode := none, cancel := false } := by
  simp [State.withNewEntry]

/-- An entry that is ON-AIR already is presented as it stands. -/
theorem State.presenting_onAir {g : Tag} {e : TransEntry} (hg : s.outbound.table[g] = some e) (he : e.state = .onAir) :
    s.presenting g e = s := by
  have hself : s.outbound.table.set g (some e) = s.outbound.table := by
    rw [← hg]
    exact Vector.set_getElem_self _
  have hentry : { e with state := .onAir } = e := by rw [← he]
  rw [State.presenting, hentry, State.setEntry, hself]

end Presentation

/-! ## The transaction of each kind (R140, R142, R175) -/

section Kinds

variable {sl : Slot}

theorem Slot.kind_eq {n : Nat} (h : sl.kind.toNat = n) : sl.kind = BitVec.ofNat 4 n := by
  rw [← h, BitVec.ofNat_toNat, BitVec.setWidth_eq]

theorem Slot.addressOk_of (hp : sl.page.toNat ≤ 4095) (ho : sl.offset.toNat ≤ 1023) : sl.addressOk = true := by
  simp [Slot.addressOk, hp, ho]

theorem Slot.countOk_of (h1 : 1 ≤ sl.count.toNat) (h16 : sl.count.toNat ≤ 16) : sl.countOk = true := by
  simp [Slot.countOk, h1, h16]

theorem Slot.transaction_none (h : sl.kind.toNat = 0 ∨ 8 ≤ sl.kind.toNat) : sl.transaction = none := by
  have hne (n : Nat) (h1 : 1 ≤ n) (h7 : n ≤ 7) : sl.kind ≠ BitVec.ofNat 4 n := fun hk => by
    rw [hk, BitVec.toNat_ofNat] at h
    omega
  unfold Slot.transaction
  simp only
  rw [if_neg (hne 1 (by decide) (by decide)), if_neg (hne 2 (by decide) (by decide)), if_neg (hne 3 (by decide) (by decide)),
    if_neg (hne 4 (by decide) (by decide)), if_neg (hne 5 (by decide) (by decide)), if_neg (hne 6 (by decide) (by decide)),
    if_neg (hne 7 (by decide) (by decide))]

end Kinds

/-- Settles O25: the checks of a presentation, its allocation on the medium and in loopback, and the kinds. -/
theorem slotPresentedIsCheckedAndAllocated : Obligations.SlotPresentedIsCheckedAndAllocated := by
  refine ⟨fun k body s hl hs hb => ?_, fun sl => ⟨fun hp ho => ?_, fun hk => ?_, fun hk => ?_, Slot.transaction_none⟩⟩
  · intro target ended
    refine ⟨fun hd => ?_, fun hon hn hr => ?_, fun hon hn hr => ?_, fun hon hok g hg => ?_⟩
    · exact running_eq hl (State.presentSlot_ends hs hb (State.presentationCheck_down hd k _ _) nofun)
    · exact running_eq hl (State.presentSlot_ends hs hb (State.presentationCheck_silent hon hn hr k) nofun)
    · exact running_eq hl (State.presentSlot_ends hs hb (State.presentationCheck_departed hon hn hr k) nofun)
    · intro taken
      have halloc := State.presentSlot_allocates hs hb (State.presentationCheck_passes hon hok k) hg
      refine ⟨fun ht => running_eq hl (halloc.trans (if_neg ht)), fun ht => ?_⟩
      intro h
      have hentry := State.withNewEntry_entry g (.slot k) target body .onAir s.outbound.queued taken
      have hpart : h.takesPart = true := by
        have : h.membership.link = .online := hon
        simp [State.takesPart, this]
      have hself := State.presenting_onAir hentry rfl
      have hpres : exec (.slotPresented k) s = .next (h.presentLoopback g) := running_eq hl (halloc.trans (if_pos ht))
      refine ⟨fun hbody => ?_, fun e o he ho => ?_⟩
      · rw [hpres, State.presentLoopback_probe hentry hpart hbody, hself]
      · intro d
        obtain rfl := Option.some.inj (hentry.symm.trans he)
        rw [hpres, State.presentLoopback_offer hentry hpart (by rw [hself]; exact ho), hself]
        have hown : target = h.membership.own := ht
        rw [← hown]
  · have hpv : (Fin.ofNat 4096 sl.page.toNat).val = sl.page.toNat := Nat.mod_eq_of_lt (by omega)
    have hov : (Fin.ofNat 1024 sl.offset.toNat).val = sl.offset.toNat := Nat.mod_eq_of_lt (by omega)
    have haddr := Slot.addressOk_of hp ho
    refine ⟨_, _, hpv, hov, fun h1 h16 => ⟨fun hk => ?_, fun hk => ?_⟩, fun hk => ?_, fun hk => ?_, fun hk => ?_⟩
    · simp [Slot.transaction, Slot.kind_eq hk, haddr, Slot.countOk_of h1 h16]
    · simp [Slot.transaction, Slot.kind_eq hk, haddr, Slot.countOk_of h1 h16]
    · simp [Slot.transaction, Slot.kind_eq hk, haddr]
    · simp [Slot.transaction, Slot.kind_eq hk, haddr]
    · simp [Slot.transaction, Slot.kind_eq hk, haddr]
  · simp [Slot.transaction, Slot.kind_eq hk]
  · simp [Slot.transaction, Slot.kind_eq hk]

end Sys2Proof.Machine

/-! SUPPORT. The entry to CONFLICT (R39, R111, R112, R133, R147, R156): what each block keeps, the failed posted writes, the end
of the held access, and the records that all of this appends. -/

namespace Sys2Proof.Machine

/-! ## A row of records joins the Event Queue (R160) -/

theorem EventQueue.append_room {q : EventQueue} (h : q.records.length < 16) (r : EventRecord) :
    q.append r = { q with records := q.records ++ [r] } := if_pos h

theorem EventQueue.append_full {q : EventQueue} (h : 16 ≤ q.records.length) (r : EventRecord) :
    q.append r = { q with overflow := true } := if_neg (Nat.not_lt.mpr h)

theorem EventQueue.foldl_append_fits : ∀ (rs : List EventRecord) (q : EventQueue), q.records.length + rs.length ≤ 16 →
    rs.foldl append q = { q with records := q.records ++ rs }
  | [], q, _ => by simp
  | r :: rs, q, h => by
    have hr : q.records.length < 16 := by simp at h; omega
    rw [List.foldl_cons, append_room hr, foldl_append_fits rs _ (by simp at h ⊢; omega)]
    simp

theorem EventQueue.foldl_append_overflows : ∀ (rs : List EventRecord) (q : EventQueue), q.records.length ≤ 16 →
    16 < q.records.length + rs.length →
    rs.foldl append q = { records := (q.records ++ rs).take 16, overflow := true }
  | [], q, hq, h => absurd h (Nat.not_lt.mpr hq)
  | r :: rs, q, hq, h => by
    rcases Nat.lt_or_ge q.records.length 16 with hr | hr
    · rw [List.foldl_cons, append_room hr,
        foldl_append_overflows rs _ (by simp; omega) (by simp at h ⊢; omega)]
      simp
    · have hfull : ∀ (xs : List EventRecord), (q.records ++ xs).take 16 = q.records := fun xs => by
        rw [List.take_append_of_le_length hr, List.take_of_length_le hq]
      have hstays : ∀ (xs : List EventRecord), xs.foldl append { q with overflow := true } = { q with overflow := true } :=
        fun xs => by
          induction xs with
          | nil => rfl
          | cons x xs ih => rw [List.foldl_cons, append_full (q := { q with overflow := true }) hr, ih]
      rw [List.foldl_cons, append_full hr, hstays, hfull]

/-! ## The posted writes fail (R133) -/

/-- The record of a posted write that ends with LINK-DOWN (R162). -/
def PostedEntry.downRecord (e : PostedEntry) : EventRecord := .failure .postedWriteFailed e.target e.page .linkDown

/-- The failure count after `n` more failures (R131). -/
def countFailures : Nat → Nat → Nat
  | f, 0 => f
  | f, n + 1 => countFailures (min (f + 1) Config.fenceLimit) n

theorem countFailures_eq {f : Nat} (n : Nat) (h : f ≤ 255) : countFailures f n = min (f + n) 255 := by
  induction n generalizing f with
  | zero => exact (Nat.min_eq_left h).symm
  | succ n ih =>
    rw [countFailures, Config.fenceLimit, ih (Nat.min_le_right _ _)]
    omega

theorem State.foldl_failPosted (es : List PostedEntry) (s : State) :
    es.foldl (fun u e => u.failPosted e .linkDown) s =
      { s with
        aperture := { s.aperture with failures := countFailures s.aperture.failures es.length }
        events := (es.map PostedEntry.downRecord).foldl EventQueue.append s.events } := by
  induction es generalizing s with
  | nil => rfl
  | cons e es ih => exact ih _

/-! ## The held access ends (R124, R129, R132) -/

/-- The record of the held access at CONFLICT (R124, R129). -/
def conflictRecords : Option HeldAccess → List EventRecord
  | some (.load l) => [.failure .apertureReadFailed l.target l.page .linkDown]
  | some (.store st) => [.refusedAccess st.address .linkDown]
  | some .fence | none => []

/-- How the held access ends on the host bus at CONFLICT, where `n` failures are counted (R124, R129, R132). -/
def HostPort.atConflict (h : HostPort) (n : Nat) : HostPort :=
  match h.held with
  | some (.load _) | some (.store _) => { h with held := none, reply := some .busError }
  | some .fence => { h with held := none, reply := some (.data (BitVec.ofNat 32 n)) }
  | none => h

theorem State.endHeldAtConflict_eq (s : State) :
    s.endHeldAtConflict =
      { s with
        host := s.host.atConflict s.aperture.failures
        aperture := { s.aperture with failures := if s.host.held = some .fence then 0 else s.aperture.failures }
        events := (conflictRecords s.host.held).foldl EventQueue.append s.events } := by
  cases h : s.host.held with
  | none => simp [State.endHeldAtConflict, HostPort.atConflict, conflictRecords, h]
  | some x =>
    cases x with
    | load l =>
      simp [State.endHeldAtConflict, State.endLoad, HostPort.atConflict, conflictRecords, h, State.releaseHost, State.addEvent]
    | store st =>
      simp [State.endHeldAtConflict, HostPort.atConflict, conflictRecords, h, State.releaseHost, State.addEvent]
    | fence =>
      simp [State.endHeldAtConflict, State.completeFence, HostPort.atConflict, conflictRecords, h, State.releaseHost]

/-! ## The blocks at CONFLICT -/

theorem slots_getElem (f : SlotNo → Slot) : ∀ k : SlotNo, (#v[f 0, f 1, f 2, f 3] : Vector Slot 4)[k] = f k
  | 0 | 1 | 2 | 3 => rfl

theorem Slot.atConflict_quiet {sl : Slot} (h : sl.state.issued = false) (m : Bool) : sl.atConflict m = sl := by
  cases hs : sl.state <;> simp_all [Slot.atConflict, SlotState.issued]

theorem Slot.atConflict_issued {sl : Slot} (h : sl.state.issued = true) (m : Bool) :
    sl.atConflict m =
      { sl with
        state := .done, cancelPending := false
        status := some (if sl.state = .entry ∧ m = true then .cancelled else .linkDown) } := by
  cases hs : sl.state with
  | idle => simp [hs, SlotState.issued] at h
  | done => simp [hs, SlotState.issued] at h
  | fence noted => simp [Slot.atConflict, hs, Slot.finish_failed]
  | entry => cases m <;> simp [Slot.atConflict, hs, Slot.finish_failed]

theorem State.slotMarked_iff (s : State) (k : SlotNo) :
    s.slotMarked k = true ↔
      ∃ (g : Tag) (e : TransEntry), s.outbound.table[g] = some e ∧ e.origin = .slot k ∧ e.cancel = true := by
  simp only [State.slotMarked, List.any_eq_true, Vector.mem_toList_iff, Vector.mem_iff_getElem]
  constructor
  · rintro ⟨_, ⟨g, hg, rfl⟩, hm⟩
    cases he : s.outbound.table[g] with
    | none => simp [he] at hm
    | some e => exact ⟨⟨g, hg⟩, e, he, by simpa [he] using hm⟩
  · rintro ⟨g, e, he, ho, hc⟩
    exact ⟨_, ⟨g.val, g.isLt, he⟩, by simp [ho, hc]⟩

theorem Inbound.atConflict_list (u : Inbound) (b : Bool) :
    (u.atConflict b).list =
      if b then (u.list.filter fun e => decide (e.state = .executing)).map fun e => { e with orphaned := true } else [] := by
  simp only [Inbound.atConflict, beq_eq_decide]

theorem emptyFilter_vacant (i : Station) (g : Tag) : (emptyFilter[i][g]).state = .vacant := by
  simp [emptyFilter]

theorem MemoryPort.atConflict_marks {p : MemoryPort} {c : Cycle} (h : p.current = some c) (hr : c.requester = .engine)
    (hd : c.discard = .clear) : p.atConflict.current = some { c with discard := .byConflict } := by
  simp [MemoryPort.atConflict, h, hr, hd]

theorem MemoryPort.atConflict_idle {p : MemoryPort} (h : p.current = none) : p.atConflict.current = none := by
  simp [MemoryPort.atConflict, h]

theorem MemoryPort.atConflict_leaves {p : MemoryPort} {c : Cycle} (h : p.current = some c)
    (hn : ¬(c.requester = .engine ∧ c.discard = .clear)) : p.atConflict.current = some c := by
  simp [MemoryPort.atConflict, h, hn]

/-! ## The entry to CONFLICT (R111, R112) -/

section Conflict

variable {s : State}

/-- The part as it enters CONFLICT, before the posted writes fail and the held access ends. -/
def State.workDropped (s : State) : State :=
  { s with
    membership := { s.membership with link := .conflict, announcePending := false, leavePending := false }
    interrupt := { s.interrupt with linkCause := true }
    events := s.events.append (.bare .stationConflict)
    link := { s.link with driving := none }
    slots := #v[s.slots[0].atConflict (s.slotMarked 0), s.slots[1].atConflict (s.slotMarked 1),
      s.slots[2].atConflict (s.slotMarked 2), s.slots[3].atConflict (s.slotMarked 3)]
    outbound := { s.outbound with table := Vector.replicate 16 none, queued := [] }
    inbound := s.inbound.atConflict s.port.dataOnBus
    map := { s.map with fill := none }
    port := s.port.atConflict }

/-- The failure count once every posted write has failed (R131, R133). -/
def State.conflictFailures (s : State) : Nat := countFailures s.aperture.failures s.aperture.posted.length

/-- The part in CONFLICT. -/
def State.inConflict (s : State) : State :=
  { s.workDropped with
    host := s.host.atConflict s.conflictFailures
    aperture :=
      { s.aperture with posted := [], failures := if s.host.held = some .fence then 0 else s.conflictFailures }
    events :=
      (.bare .stationConflict :: s.aperture.posted.map PostedEntry.downRecord ++ conflictRecords s.host.held).foldl
        EventQueue.append s.events }

theorem State.enterConflict_already (h : s.membership.link = .conflict) : s.enterConflict = s := by
  simp only [State.enterConflict, h]

theorem State.enterConflict_drops (ho : s.membership.link ≠ .offline) (hc : s.membership.link ≠ .conflict) :
    s.enterConflict = s.workDropped.failAllPosted.endHeldAtConflict := by
  have hset := State.setLink_changed hc
  unfold State.enterConflict
  split
  · exact absurd ‹_› ho
  · exact absurd ‹_› hc
  · rw [hset]
    rfl

theorem State.enterConflict_enters (ho : s.membership.link ≠ .offline) (hc : s.membership.link ≠ .conflict) :
    s.enterConflict = s.inConflict := by
  rw [State.enterConflict_drops ho hc, State.failAllPosted, State.foldl_failPosted, State.endHeldAtConflict_eq]
  simp only [State.inConflict, List.foldl_append, List.cons_append, List.foldl_cons]
  rfl

theorem exec_ownSourceFrameHeard (hr : s.pins.resetLow = false) (ha : s.link.attached = true)
    (hl : s.membership.link ≠ .offline) (hp : s.link.phase = .frame) :
    exec .ownSourceFrameHeard s = .next s.afterFrame.enterConflict := by
  have hf : (s.follows && s.link.phase.receptive) = true := by simp [State.follows, ha, hl, hp, MediumPhase.receptive]
  exact running_eq hr ((if_pos hf).trans (if_pos rfl))

/-! ### What stands in the part then -/

theorem State.inConflict_slot (s : State) (k : SlotNo) : s.inConflict.slots[k] = s.slots[k].atConflict (s.slotMarked k) :=
  slots_getElem (fun k => s.slots[k].atConflict (s.slotMarked k)) k

theorem State.conflictFailures_eq (h : s.aperture.failures ≤ 255) :
    s.conflictFailures = min (s.aperture.failures + s.aperture.posted.length) 255 := countFailures_eq _ h

theorem State.inConflict_tag (s : State) (g : Tag) : s.inConflict.outbound.table[g] = none := by
  simp [State.inConflict, State.workDropped]

theorem HostPort.atConflict_none {h : HostPort} (hh : h.held = none) (n : Nat) : h.atConflict n = h := by
  simp only [HostPort.atConflict, hh]

theorem HostPort.atConflict_load {h : HostPort} {l : HeldLoad} (hh : h.held = some (.load l)) (n : Nat) :
    h.atConflict n = { h with held := none, reply := some .busError } := by
  simp only [HostPort.atConflict, hh]

theorem HostPort.atConflict_store {h : HostPort} {st : HeldStore} (hh : h.held = some (.store st)) (n : Nat) :
    h.atConflict n = { h with held := none, reply := some .busError } := by
  simp only [HostPort.atConflict, hh]

theorem HostPort.atConflict_fence {h : HostPort} (hh : h.held = some .fence) (n : Nat) :
    h.atConflict n = { h with held := none, reply := some (.data (BitVec.ofNat 32 n)) } := by
  simp only [HostPort.atConflict, hh]

end Conflict

/-- Settles O47: a first own-source frame leads to `State.inConflict`, whose blocks are read off one by one. -/
theorem ownSourceFrameEntersConflict : Obligations.OwnSourceFrameEntersConflict := by
  intro s hr ha hl hp medium
  have hexec := exec_ownSourceFrameHeard hr ha hl hp
  refine ⟨fun hc => ?_, fun hc => ?_⟩
  · rw [hexec, State.enterConflict_already (s := s.afterFrame) hc]
    rfl
  intro failures none_ records
  have hrecords : records = .bare .stationConflict ::
      s.aperture.posted.map PostedEntry.downRecord ++ conflictRecords s.host.held := by
    cases hh : s.host.held with
    | none => simp only [records, hh]; rfl
    | some x => cases x <;> (simp only [records, hh]; rfl)
  have hevents : s.afterFrame.inConflict.events = records.foldl EventQueue.append s.events := by
    rw [hrecords]
    rfl
  have hport (c : Cycle) (hcur : s.port.current = some c) (hn : ¬(c.requester = .engine ∧ c.discard = .clear)) :
      s.port.atConflict.current = some c := MemoryPort.atConflict_leaves hcur hn
  refine ⟨s.afterFrame.inConflict, ?_, rfl, rfl, rfl, s.afterFrame.inConflict_tag, rfl, rfl, ?_, rfl, rfl, ?_, rfl, rfl, rfl,
    rfl, fun hf => ?_, rfl, rfl, fun c hcur hm => ?_, fun c hcur he hd => ?_, fun c hcur hd => ?_, fun hcur => ?_,
    fun k hk => ?_, fun k hk => ?_, hevents, fun h16 => ?_, fun h16 hq => ?_, fun hh => ?_, fun l hh => ?_, fun h hh => ?_,
    fun hh hf => ?_, rfl, rfl, rfl⟩
  · rw [hexec, State.enterConflict_enters (s := s.afterFrame) hl hc]
  · exact s.inbound.atConflict_list s.port.dataOnBus
  · exact emptyFilter_vacant
  · simp only [failures, ← State.conflictFailures_eq hf]
    rfl
  · exact hport c hcur (by simp [hm])
  · exact MemoryPort.atConflict_marks hcur he hd
  · exact hport c hcur (by simp [hd])
  · exact MemoryPort.atConflict_idle hcur
  · rw [State.inConflict_slot]
    exact Slot.atConflict_quiet hk _
  · intro marked ended
    have hmarked : marked ↔ s.slots[k].state = .entry ∧ s.afterFrame.slotMarked k = true :=
      and_congr_right' (s.afterFrame.slotMarked_iff k).symm
    have hslot := (s.afterFrame.inConflict_slot k).trans (Slot.atConflict_issued hk _)
    refine ⟨fun hm => ?_, fun hm => ?_⟩
    · exact hslot.trans (by rw [if_pos (hmarked.mp hm)])
    · exact hslot.trans (by rw [if_neg (mt hmarked.mpr hm)])
  · rw [hevents, EventQueue.foldl_append_fits _ _ h16]
  · rw [hevents, EventQueue.foldl_append_overflows _ _ hq h16]
  · exact HostPort.atConflict_none hh _
  · exact HostPort.atConflict_load hh _
  · exact HostPort.atConflict_store hh _
  · simp only [failures, ← State.conflictFailures_eq hf]
    exact HostPort.atConflict_fence hh _

end Sys2Proof.Machine

/-! SUPPORT. The interrupt causes and INT (R166, R168), the registers that carry them (R174, R175), and POP of the Signal Queue
(R51, R52). -/

namespace Sys2Proof.Machine

/-! ## The causes (R53, R143, R166) -/

/-- The bit of the causes at which their number holds a flag. -/
theorem getLsbD_ofNat_cause {n i : Nat} {b : Bool} (hi : i < 7) (h : n / 2 ^ i % 2 = flag b) :
    (BitVec.ofNat 7 n).getLsbD i = b := by
  rw [BitVec.getLsbD_ofNat, decide_eq_true hi, Bool.true_and, Nat.testBit_eq_decide_div_mod_eq, h]
  cases b <;> rfl

section Causes

variable (s : State)

theorem State.causes_slotDone (k : SlotNo) : s.causes.getLsbD k.val = s.slots[k].isDone := by
  have h0 := flag_le_one s.slots[0].isDone
  have h1 := flag_le_one s.slots[1].isDone
  have h2 := flag_le_one s.slots[2].isDone
  rw [State.causes]
  match k with
  | 0 => exact getLsbD_ofNat_cause (i := 0) (b := s.slots[0].isDone) (by decide) (by omega)
  | 1 => exact getLsbD_ofNat_cause (i := 1) (b := s.slots[1].isDone) (by decide) (by omega)
  | 2 => exact getLsbD_ofNat_cause (i := 2) (b := s.slots[2].isDone) (by decide) (by omega)
  | 3 =>
    have h3 := flag_le_one s.slots[3].isDone
    exact getLsbD_ofNat_cause (i := 3) (b := s.slots[3].isDone) (by decide) (by omega)

/-- The SLOT-DONE flags lie below bit 4 of the causes, and the others are at their bits. -/
theorem State.causes_split :
    ∃ n < 16, s.causes =
      BitVec.ofNat 7 (n + 16 * flag (!s.signals.isEmpty) + 32 * flag (!s.events.records.isEmpty) +
        64 * flag s.interrupt.linkCause) := by
  have h0 := flag_le_one s.slots[0].isDone
  have h1 := flag_le_one s.slots[1].isDone
  have h2 := flag_le_one s.slots[2].isDone
  have h3 := flag_le_one s.slots[3].isDone
  exact ⟨_, by omega, rfl⟩

theorem State.causes_signal : s.causes.getLsbD 4 = !s.signals.isEmpty := by
  obtain ⟨n, hn, hc⟩ := s.causes_split
  have hs := flag_le_one (!s.signals.isEmpty)
  rw [hc]
  exact getLsbD_ofNat_cause (by decide) (by omega)

theorem State.causes_event : s.causes.getLsbD 5 = !s.events.records.isEmpty := by
  obtain ⟨n, hn, hc⟩ := s.causes_split
  have hs := flag_le_one (!s.signals.isEmpty)
  have he := flag_le_one (!s.events.records.isEmpty)
  rw [hc]
  exact getLsbD_ofNat_cause (by decide) (by omega)

theorem State.causes_link : s.causes.getLsbD 6 = s.interrupt.linkCause := by
  obtain ⟨n, hn, hc⟩ := s.causes_split
  have hs := flag_le_one (!s.signals.isEmpty)
  have he := flag_le_one (!s.events.records.isEmpty)
  have hl := flag_le_one s.interrupt.linkCause
  rw [hc]
  exact getLsbD_ofNat_cause (by decide) (by omega)

/-! ## INT (R168, R178) -/

/-- Two words have a 1 in common exactly where their conjunction is not 0. -/
theorem and_ne_zero_iff {w : Nat} (x y : BitVec w) :
    x &&& y ≠ 0#w ↔ ∃ n : Fin w, x.getLsbD n = true ∧ y.getLsbD n = true := by
  refine ⟨fun h => ?_, fun ⟨n, hx, hy⟩ h => ?_⟩
  · by_contra hn
    refine h (BitVec.eq_of_getLsbD_eq fun i hi => ?_)
    have hi := not_exists.mp hn ⟨i, hi⟩
    simpa using hi
  · have hb := congrArg (BitVec.getLsbD · n) h
    simp only [BitVec.getLsbD_and, hx, hy, BitVec.getLsbD_zero, Bool.and_self, Bool.true_eq_false] at hb

theorem State.int_iff :
    s.int = true ↔
      s.pins.resetLow = false ∧ ∃ n : Fin 7, s.causes.getLsbD n = true ∧ s.interrupt.enables.getLsbD n = true := by
  rw [← and_ne_zero_iff, State.int, Bool.and_eq_true, Bool.not_eq_true', bne_iff_ne]

/-! ## The interrupt registers (R167, R168, R174, R175) -/

theorem State.clearLinkCause_eq (w : Word) :
    s.clearLinkCause w =
      { s with interrupt := { s.interrupt with linkCause := s.interrupt.linkCause && !w.getLsbD 6 } } := by
  unfold State.clearLinkCause
  cases hb : w.getLsbD 6 <;> simp

theorem State.writeRegister_interruptStatus (w : Word) : s.writeRegister 0x014#12 w = s.clearLinkCause w := rfl
theorem State.writeRegister_interruptMask (w : Word) : s.writeRegister 0x018#12 w = s.setEnables w := rfl
theorem State.readRegister_interruptStatus : s.readRegister 0x014#12 = s.causes.setWidth 32 := rfl
theorem State.readRegister_interruptMask : s.readRegister 0x018#12 = s.interrupt.enables.setWidth 32 := rfl

end Causes

/-- A register of seven bits reads as its number. -/
theorem setWidth_word_toNat (x : BitVec 7) : (x.setWidth 32).toNat = x.toNat :=
  BitVec.toNat_setWidth_of_le (by decide)

/-- Settles O13: the two writes by their equations, INT by the bits in common, and the causes bit by bit. -/
theorem interruptRegistersAndCauses : Obligations.InterruptRegistersAndCauses := by
  refine ⟨fun v s => ⟨fun h => ⟨?_, hostWrite_free _ _ h⟩, s.int_iff⟩, fun s => ⟨fun k => ?_, ?_, ?_, ?_⟩,
    fun v s => ⟨fun h => ⟨?_, ?_⟩, ?_, ?_⟩⟩
  · exact hostWrite_eq h ((s.answerHost .done).clearLinkCause_eq v)
  · rw [s.causes_slotDone, Slot.isDone, beq_iff_eq]
  · rw [s.causes_signal, Bool.not_eq_true', List.isEmpty_eq_false_iff]
  · rw [s.causes_event, Bool.not_eq_true', List.isEmpty_eq_false_iff]
  · rw [s.causes_link]
  · rw [exec_registerWrite_free h (by decide), State.writeRegister_interruptStatus]
    exact (hostWrite_free _ _ h).symm
  · rw [exec_registerWrite_free h (by decide), State.writeRegister_interruptMask]
    exact (hostWrite_free _ _ h).symm
  · rw [s.readRegister_interruptStatus, setWidth_word_toNat]
  · rw [s.readRegister_interruptMask, setWidth_word_toNat]

/-! ## POP of the Signal Queue (R49, R51, R52) -/

section SignalQueue

variable {s : State}

theorem exec_signalPop (h : s.hostBlocked = false) (v : Word) :
    exec (.signalPop v) s = .next (s.answerHost .done).popSignal := hostWrite_free _ _ h

theorem State.popSignal_empty (h : s.signals = []) : s.popSignal = s := by
  rw [State.popSignal, h, List.tail_nil, ← h]

theorem State.popSignal_cons {r : SignalRecord} {rs : List SignalRecord} (h : s.signals = r :: rs) :
    s.popSignal = { s with signals := rs } := by
  rw [State.popSignal, h, List.tail_cons]

/-- An accepted signal becomes the newest record of the queue (R49). -/
theorem State.enlist_signals (i : Station) (t : Tag) (b : Bool) (w : Word) :
    (s.enlist i t b (.signal w)).signals = s.signals ++ [{ source := i, value := w }] := rfl

theorem State.enlist_hostBlocked (i : Station) (t : Tag) (b : Bool) (w : Word) :
    (s.enlist i t b (.signal w)).hostBlocked = s.hostBlocked := rfl

theorem State.writeRegister_signalPop (w : Word) : s.writeRegister 0x034#12 w = s.popSignal := rfl
theorem State.readRegister_signalStatus : s.readRegister 0x02C#12 = s.signalStatus := rfl
theorem State.readRegister_signalValue : s.readRegister 0x030#12 = s.signalValue := rfl

theorem State.signalStatus_empty (h : s.signals = []) : s.signalStatus = 0#32 := by
  simp only [State.signalStatus, h]

theorem State.signalValue_empty (h : s.signals = []) : s.signalValue = 0#32 := by
  simp only [State.signalValue, h]

theorem State.signalStatus_head {r : SignalRecord} {rs : List SignalRecord} (h : s.signals = r :: rs) :
    s.signalStatus.toNat = 1 + 16 * r.source.val := by
  have hs := r.source.isLt
  simp only [State.signalStatus, h, BitVec.toNat_ofNat]
  omega

theorem State.signalValue_head {r : SignalRecord} {rs : List SignalRecord} (h : s.signals = r :: rs) :
    s.signalValue = r.value := by
  simp only [State.signalValue, h]

end SignalQueue

/-- Settles O15: POP by the shape of the queue, its two orders with a delivery, and the head registers. -/
theorem signalPopRemovesTheHead : Obligations.SignalPopRemovesTheHead := by
  intro v s h
  have pop := exec_signalPop h v
  refine ⟨fun he => ?_, fun r rs hq => ⟨?_, fun i g b w hf => ?_⟩, fun i g b w u t he => ⟨?_, ?_⟩, ?_,
    fun he => ⟨?_, ?_⟩, fun r rs hq => ⟨?_, ?_⟩⟩
  · rw [pop, State.popSignal_empty (s := s.answerHost .done) he]
  · rw [pop, State.popSignal_cons (s := s.answerHost .done) hq]
  · exact acceptDecision_closed (s := { s.answerHost .done with signals := rs }) hf (.signal w)
  · rintro rfl ht
    rw [exec_signalPop (s.enlist_hostBlocked i g b w ▸ h)] at ht
    cases ht
    rw [State.popSignal_signals, State.answerHost_signals, State.enlist_signals, he]
    rfl
  · rintro hu rfl
    rw [pop, State.popSignal_empty (s := s.answerHost .done) he] at hu
    cases hu
    rw [State.enlist_signals, State.answerHost_signals, he]
    rfl
  · rw [exec_registerWrite_free h (by decide), State.writeRegister_signalPop, pop]
  · rw [State.readRegister_signalStatus, State.signalStatus_empty he]
  · rw [State.readRegister_signalValue, State.signalValue_empty he]
  · rw [State.readRegister_signalStatus, State.signalStatus_head hq]
  · rw [State.readRegister_signalValue, State.signalValue_head hq]

end Sys2Proof.Machine

/-! SUPPORT. The transfers of a Local Bus cycle one by one (R151, R152, R155), and a locked cycle that is not marked: what its
read phase and its write phase bring (R44 to R46, R153). -/

namespace Sys2Proof.Machine

/-! ## Transfers in order (R151, R152) -/

section Transfers

variable {n : Nat} {a : Word} {w : MaskedWord} {ws : List MaskedWord} {ts : List Transfer} {m : List Host.Cell}

/-- A read transfer that ends OK reads its word, and the next follows. -/
theorem readTransfers_ok (h : (firstTransfer ts).reply = .ok) :
    readTransfers (n + 1) a ts m =
      { outcome := (readTransfers n (a + 4#32) ts.tail (writeOthers (firstTransfer ts).others m)).outcome
        words :=
          if (readTransfers n (a + 4#32) ts.tail (writeOthers (firstTransfer ts).others m)).outcome = .ok then
            readWord (writeOthers (firstTransfer ts).others m) a ::
              (readTransfers n (a + 4#32) ts.tail (writeOthers (firstTransfer ts).others m)).words
          else []
        memory := (readTransfers n (a + 4#32) ts.tail (writeOthers (firstTransfer ts).others m)).memory } := by
  simp only [readTransfers, h]

/-- The first read transfer that fails ends the cycle, which brings nothing. -/
theorem readTransfers_failed (h : (firstTransfer ts).reply ≠ .ok) :
    readTransfers (n + 1) a ts m =
      { outcome := (firstTransfer ts).reply, words := [], memory := writeOthers (firstTransfer ts).others m } := by
  rw [readTransfers]
  cases hr : (firstTransfer ts).reply with
  | ok => exact absurd hr h
  | dataError => rfl
  | noReply => rfl

/-- A write transfer that ends OK writes its word, and the next follows. -/
theorem writeTransfers_ok (h : (firstTransfer ts).reply = .ok) :
    writeTransfers (w :: ws) a ts m =
      writeTransfers ws (a + 4#32) ts.tail (writeLanes (writeOthers (firstTransfer ts).others m) a w.mask w.data) := by
  simp only [writeTransfers, h]

/-- The first write transfer that fails ends the cycle, its word written or not. -/
theorem writeTransfers_failed (h : (firstTransfer ts).reply ≠ .ok) :
    writeTransfers (w :: ws) a ts m =
      ((firstTransfer ts).reply,
        if (firstTransfer ts).landed then writeLanes (writeOthers (firstTransfer ts).others m) a w.mask w.data
        else writeOthers (firstTransfer ts).others m) := by
  rw [writeTransfers]
  cases hr : (firstTransfer ts).reply with
  | ok => exact absurd hr h
  | dataError => rfl
  | noReply => rfl

/-- Reads that all end OK with no other master about bring the words of ascending addresses. -/
theorem readTransfers_nil (n : Nat) (a : Word) (m : List Host.Cell) :
    readTransfers n a [] m =
      { outcome := .ok, words := (List.range n).map fun i => readWord m (a + BitVec.ofNat 32 (4 * i)), memory := m } := by
  induction n generalizing a with
  | zero => rfl
  | succ n ih =>
    have hnext (i : Nat) : a + 4#32 + BitVec.ofNat 32 (4 * i) = a + BitVec.ofNat 32 (4 * (i + 1)) := by
      rw [BitVec.add_assoc, ← BitVec.ofNat_add, Nat.mul_succ, Nat.add_comm 4]
    have hothers : writeOthers (firstTransfer []).others m = m := rfl
    rw [readTransfers_ok rfl, hothers, List.tail_nil, ih, List.range_succ_eq_map, List.map_cons, List.map_map]
    simp [hnext, Function.comp_def]

end Transfers

/-! ## What other masters write (R155) -/

theorem writeOthers_append (os ps : List (Word × Byte)) (m : List Host.Cell) :
    writeOthers (os ++ ps) m = writeOthers ps (writeOthers os m) := by
  induction os generalizing m with
  | nil => rfl
  | cons o os ih => exact ih (writeByte m o.1.toNat o.2)

/-- The last byte written stands, over those written before it. -/
theorem readByte_writeOthers_last {m : List Host.Cell} (h : memoryWf m = true) (os : List (Word × Byte)) (a : Word) (v : Byte)
    (b : Nat) :
    readByte (writeOthers (os ++ [(a, v)]) m) b = if b = a.toNat then v else readByte (writeOthers os m) b := by
  rw [writeOthers_append]
  exact readByte_writeByte a.toNat b v (writeOthers_memoryWf h)

/-! ## The cycles of the port (R151, R153, R155) -/

section Cycles

variable {c : Cycle}

theorem Cycle.run_dataRead {n : Nat} (hk : c.request.kind = .dataRead n) (ts : List Transfer) (m : List Host.Cell) :
    c.run ts m = readTransfers n c.request.addr ts m := by
  simp only [Cycle.run, hk]

theorem Cycle.run_maskedWrite {ws : List MaskedWord} (hk : c.request.kind = .maskedWrite ws) (ts : List Transfer)
    (m : List Host.Cell) :
    c.run ts m =
      { outcome := (writeTransfers ws c.request.addr ts m).1, words := []
        memory := (writeTransfers ws c.request.addr ts m).2 } := by
  simp only [Cycle.run, hk]

theorem Transfer.locked_comp_locked : Transfer.locked ∘ Transfer.locked = Transfer.locked := rfl

/-- The lock keeps other masters out of the write phase (R44, R155). -/
theorem Cycle.run_writePhase_locked {op : AtomicOp} (hk : c.request.kind = .locked op) (ho : c.old ≠ none)
    (ts : List Transfer) (m : List Host.Cell) : c.run ts m = c.run (ts.map Transfer.locked) m := by
  obtain ⟨old, ho⟩ := Option.ne_none_iff_exists'.mp ho
  simp only [Cycle.run, hk, ho, List.map_map, Transfer.locked_comp_locked]

theorem readTransfers_one_cons (a : Word) (t : Transfer) (ts : List Transfer) (m : List Host.Cell) :
    readTransfers 1 a (t :: ts) m = readTransfers 1 a [t] m := rfl

/-- A locked cycle whose read phase ends OK goes on as one in its write phase (R153). -/
theorem Cycle.run_readPhase {op : AtomicOp} (hk : c.request.kind = .locked op) (ho : c.old = none) (ts : List Transfer)
    (m : List Host.Cell) :
    c.run ts m =
      if (readTransfers 1 c.request.addr ts m).outcome = .ok then
        ({ c with old := some ((readTransfers 1 c.request.addr ts m).words.headD 0#32) } : Cycle).run ts.tail
          (readTransfers 1 c.request.addr ts m).memory
      else readTransfers 1 c.request.addr ts m := by
  simp only [Cycle.run, hk, ho]

/-- From the read phase on the lock keeps other masters out (R44, R153, R155). -/
theorem Cycle.run_readPhase_locked {op : AtomicOp} (hk : c.request.kind = .locked op) (ho : c.old = none) (t : Transfer)
    (ts : List Transfer) (m : List Host.Cell) : c.run (t :: ts) m = c.run (t :: ts.map Transfer.locked) m := by
  rw [Cycle.run_readPhase hk ho, Cycle.run_readPhase hk ho, readTransfers_one_cons, readTransfers_one_cons _ t (ts.map _),
    List.tail_cons, List.tail_cons]
  split
  · exact Cycle.run_writePhase_locked (c := { c with old := some _ }) hk (Option.some_ne_none _) ts _
  · rfl

end Cycles

/-- Settles O52: the transfers one by one, the bytes of other masters, and the cycles by their kinds. -/
theorem cyclesRunTheirTransfersInOrder : Obligations.CyclesRunTheirTransfersInOrder := by
  refine ⟨fun n w ws a m t ts => ⟨readTransfers_nil n a m, writeTransfers_ok rfl, rfl, rfl, ?_⟩,
    fun os a v m b h => ⟨rfl, readByte_writeOthers_last h os a v b⟩, fun c ts m => ?_⟩
  · intro m1
    exact ⟨fun h => ⟨readTransfers_ok (ts := t :: ts) h, writeTransfers_ok (ts := t :: ts) h⟩,
      fun h => ⟨readTransfers_failed (ts := t :: ts) h, writeTransfers_failed (ts := t :: ts) h⟩⟩
  · exact ⟨fun n hk => Cycle.run_dataRead hk ts m, fun p hk => Cycle.run_mapRead hk ts m,
      fun ws hk => Cycle.run_maskedWrite hk ts m, fun p e hk => Cycle.run_mapWrite hk ts m,
      fun op t hk => ⟨fun ho => Cycle.run_writePhase_locked hk ho ts m, fun ho => Cycle.run_readPhase_locked hk ho t ts m⟩⟩

/-! ## The outcome of a locked cycle that is not marked (R44 to R46, R154) -/

section Locked

variable {s : State} {c : Cycle} {op : AtomicOp} {t : Transfer}

theorem State.handOver_clear (hd : c.discard = .clear) (r : ReadResult) (f : ReadResult → State → State) (s : State) :
    s.handOver c r f = (f r { s with memory := r.memory }).portNext := by
  simp only [State.handOver, hd, if_true]

theorem State.dataEnded_ok {r : ReadResult} (h : r.outcome = .ok) (s : State) : s.dataEnded r = s.endExecution .ok r.words :=
  if_pos h

theorem State.dataEnded_failed {r : ReadResult} (h : r.outcome ≠ .ok) (s : State) :
    s.dataEnded r = s.endExecution .memoryError [] := if_neg h

/-- A read phase that finds nothing to store ends the execution with the old value (R43, R153). -/
theorem State.endReadPhase_storesNothing (hd : c.discard = .clear) (hr : t.reply = .ok)
    (hv : op.newValue (readWord (writeOthers t.others s.memory) c.request.addr) = none) :
    s.endReadPhase c op t =
      (({ s with memory := writeOthers t.others s.memory } : State).endExecution .ok
        [readWord (writeOthers t.others s.memory) c.request.addr]).portNext := by
  simp only [State.endReadPhase, readTransfers_one, hr, if_true, List.headD_cons, hv, Option.isSome_none, Bool.false_eq_true,
    and_false, if_false, State.handOver_clear hd, State.dataEnded_ok]

/-- A read phase that fails ends the execution and writes nothing (R45). -/
theorem State.endReadPhase_failed (hd : c.discard = .clear) (hr : t.reply ≠ .ok) :
    s.endReadPhase c op t =
      (({ s with memory := writeOthers t.others s.memory } : State).endExecution .memoryError []).portNext := by
  simp only [State.endReadPhase, readTransfers_one, hr, false_and, if_false, State.handOver_clear hd]
  rw [State.dataEnded_failed hr]

/-- A write phase that ends OK stores the new value and brings the old one (R44). -/
theorem Cycle.run_writePhase_ok (hk : c.request.kind = .locked op) {old v : Word} (ho : c.old = some old)
    (hv : op.newValue old = some v) (hr : t.reply = .ok) (m : List Host.Cell) :
    c.run [t] m = { outcome := .ok, words := [old], memory := writeLanes m c.request.addr Lanes.all v } := by
  have hw : writeTransfers [{ mask := Lanes.all, data := v }] c.request.addr [Transfer.locked t] m =
      (.ok, writeLanes m c.request.addr Lanes.all v) := writeTransfers_ok hr
  simp only [Cycle.run, hk, ho, hv, List.map_cons, List.map_nil, hw, if_true]

/-- A write phase that fails has stored the new value or not, and brings nothing (R46). -/
theorem Cycle.run_writePhase_failed (hk : c.request.kind = .locked op) {old v : Word} (ho : c.old = some old)
    (hv : op.newValue old = some v) (hr : t.reply ≠ .ok) (m : List Host.Cell) :
    c.run [t] m =
      { outcome := t.reply, words := []
        memory := if t.landed then writeLanes m c.request.addr Lanes.all v else m } := by
  have hw : writeTransfers [{ mask := Lanes.all, data := v }] c.request.addr [Transfer.locked t] m =
      (t.reply, if t.landed then writeLanes m c.request.addr Lanes.all v else m) := writeTransfers_failed hr
  simp only [Cycle.run, hk, ho, hv, List.map_cons, List.map_nil, hw, if_neg hr]

/-- The end of a write phase, by what the cycle leaves and brings. -/
theorem exec_lockedWritePhaseEnd (hl : s.pins.resetLow = false) (hc : s.port.current = some c)
    (hk : c.request.kind = .locked op) {old : Word} (ho : c.old = some old) (hd : c.discard = .clear) {r : ReadResult}
    (hr : c.run [t] s.memory = r) :
    exec (.lockedWritePhaseEnd t) s = .next (({ s with memory := r.memory } : State).dataEnded r).portNext := by
  refine running_eq hl ?_
  rw [State.endCycle_clear hc (by simp [Cycle.inWritePhase, hk, ho]) hd, hr]

/-- An execution for another station that is not orphaned ends OK with its data as the reply (R31). -/
theorem executes.endExecution_ok {pre post : List ListEntry} {e : ListEntry} (h : executes s.inbound.list pre e post)
    (ho : e.source ≠ s.membership.own) (hn : e.orphaned = false) (data : List Word) :
    s.endExecution .ok data =
      s.withList (pre ++ { e with state := .replyReady, status := some .ok, data := data } :: post)
        (s.inbound.replyOrder ++ [(e.source, e.tag)]) := by
  rw [h.endExecution_other ho hn, if_pos rfl]

end Locked

/-- Settles O54, by the outcomes of the two phases. -/
theorem lockedCyclePhasesEnd : Obligations.LockedCyclePhasesEnd := by
  refine ⟨fun t c op pre post e s hl hc hq hd ho hk hx => ?_, fun t c op old v pre post e s hl hc hq hd ho hk hv hx => ?_⟩
  · intro h old other
    have hend := exec_lockedReadPhaseEnd hl hc hk ho t
    have hh : executes h.inbound.list pre e post := hx
    refine ⟨fun hr hv => ?_, fun hr hv => ?_, fun hr => ?_⟩
    · obtain ⟨v, hv⟩ := Option.ne_none_iff_exists'.mp hv
      exact hend.trans (congrArg _ (State.endReadPhase_stores hr hv))
    · have hok : exec (.lockedReadPhaseEnd t) s = .next (h.endExecution .ok [old]).portNext :=
        hend.trans (congrArg _ (State.endReadPhase_storesNothing hd hr hv))
      exact ⟨hok, fun ⟨hs, hn⟩ => by rw [hok, hh.endExecution_ok hs hn]⟩
    · have herr : exec (.lockedReadPhaseEnd t) s = .next (h.endExecution .memoryError []).portNext :=
        hend.trans (congrArg _ (State.endReadPhase_failed hd hr))
      exact ⟨herr, fun ⟨hs, hn⟩ => by rw [herr, hh.endExecution_rejected hs hn (by decide)]; rfl⟩
  · intro stored left other
    refine ⟨fun hr => ?_, fun hr => ?_⟩
    · have hh : executes stored.inbound.list pre e post := hx
      have hok : exec (.lockedWritePhaseEnd t) s = .next (stored.endExecution .ok [old]).portNext :=
        exec_lockedWritePhaseEnd hl hc hk ho hd (Cycle.run_writePhase_ok hk ho hv hr s.memory)
      exact ⟨hok, fun ⟨hs, hn⟩ => by rw [hok, hh.endExecution_ok hs hn]⟩
    · have hleft : left = { s with
          memory := if t.landed then writeLanes s.memory c.request.addr Lanes.all v else s.memory } := by
        simp only [left, stored]
        split <;> rfl
      have herr : exec (.lockedWritePhaseEnd t) s = .next (left.endExecution .memoryError []).portNext := by
        rw [hleft, exec_lockedWritePhaseEnd hl hc hk ho hd (Cycle.run_writePhase_failed hk ho hv hr s.memory),
          State.dataEnded_failed hr]
      refine ⟨herr, fun ⟨hs, hn⟩ => ?_⟩
      have hh : executes left.inbound.list pre e post := by rwa [hleft]
      rw [herr, hh.endExecution_rejected (by rwa [hleft]) hn (by decide), hleft]
      rfl

end Sys2Proof.Machine

/-! SUPPORT. The agreement of the queued order with the Transaction Table (R60, R62, R71, R76, R109): the changes of one entry that
keep it, what a change of medium or buffer asks for, and each operation by these. -/

namespace Sys2Proof.Machine

/-! ## What a presentation leaves alone -/

theorem State.loopbackAnswer_frame (s : State) (t : Tag) (e : TransEntry) :
    (s.loopbackAnswer t e).2.outbound = s.outbound ∧ (s.loopbackAnswer t e).2.link = s.link := by
  unfold State.loopbackAnswer
  split
  · split
    · obtain ⟨_, _, _, e, -⟩ := acceptDecision_touches s s.membership.own t e.issue ‹_›
      rw [e]
      exact ⟨rfl, rfl⟩
    · exact ⟨rfl, rfl⟩
  · exact ⟨rfl, rfl⟩

theorem State.take_frame (s : State) (o : Origin) :
    (s.take o).outbound = s.outbound ∧ (s.take o).link = s.link ∧ (s.take o).membership = s.membership := by
  cases o with
  | apertureRead =>
    simp only [State.take]
    split <;> exact ⟨rfl, rfl, rfl⟩
  | posted p => exact ⟨rfl, rfl, rfl⟩
  | slot k => exact ⟨rfl, rfl, rfl⟩

/-! ## One entry, the medium and the buffer under a sound queued order -/

theorem table_set_at (table : Vector (Option TransEntry) 16) (t g : Tag) (o : Option TransEntry) :
    (table.set t o)[g] = if t = g then o else table[g] := by
  simp only [Fin.getElem_fin, Vector.getElem_set, Fin.val_inj]

theorem emptyTable_at (t : Tag) : (Vector.replicate 16 (none : Option TransEntry))[t] = none := by simp

/-- The request frame of a tag is on the medium. -/
def State.sends (s : State) (t : Tag) : Prop := ∃ f, s.link.phase = .own { owner := .transaction t, frame := f }

/-- An entry as the request frame on the medium has it: ON-AIR, for another station (R62). -/
def State.carried (s : State) (o : Option TransEntry) : Prop :=
  ∃ e, o = some e ∧ e.state = .onAir ∧ e.target ≠ s.membership.own

/-- An entry that the queued order names. -/
def isQueued (o : Option TransEntry) : Prop := ∃ e, o = some e ∧ e.state = .queued

theorem isQueued_some {e : TransEntry} : isQueued (some e) ↔ e.state = .queued := by simp [isQueued]

theorem not_isQueued_none : ¬isQueued none := by simp [isQueued]

namespace State.queueSound

variable {s : State} {t : Tag} {e : TransEntry}

theorem nodup (h : s.queueSound) : s.outbound.queued.Nodup := h.1

theorem mem_queued (h : s.queueSound) (t : Tag) : t ∈ s.outbound.queued ↔ isQueued s.outbound.table[t] := h.2.1 t

theorem mem_queued_iff (h : s.queueSound) (hg : s.outbound.table[t] = some e) :
    t ∈ s.outbound.queued ↔ e.state = .queued := by
  rw [h.mem_queued, hg, isQueued_some]

theorem target_ne_own (h : s.queueSound) (hg : s.outbound.table[t] = some e) (he : e.state = .queued) :
    e.target ≠ s.membership.own := h.2.2.1 t e hg he

theorem carried (h : s.queueSound) (hs : s.sends t) : s.carried s.outbound.table[t] := by
  obtain ⟨f, hf⟩ := hs
  exact h.2.2.2.1 t f hf

theorem not_sends (h : s.queueSound) (hg : s.outbound.table[t] = some e)
    (he : e.state ≠ .onAir ∨ e.target = s.membership.own) : ¬s.sends t := fun hs => by
  obtain ⟨f, hf, hon, ht⟩ := h.carried hs
  obtain rfl := Option.some.inj (hg.symm.trans hf)
  exact he.elim (fun hn => hn hon) ht

theorem table_empty (h : s.queueSound) (hp : s.takesPart = false) (t : Tag) : s.outbound.table[t] = none :=
  h.2.2.2.2.1 hp t

theorem leaving (h : s.queueSound) (hv : s.membership.leavePending = true) :
    s.membership.link = .draining ∧ s.aperture.posted = [] ∧ ∀ t : Tag, s.outbound.table[t] = none := h.2.2.2.2.2.1 hv

theorem leave_pending (h : s.queueSound) {f : RawFrame} (hf : s.link.phase = .own { owner := .leave, frame := f }) :
    s.membership.leavePending = true := h.2.2.2.2.2.2 f hf

theorem takesPart (h : s.queueSound) (hg : s.outbound.table[t] = some e) : s.takesPart = true := by
  by_contra hp
  rw [h.table_empty (by simpa using hp)] at hg
  cases hg

theorem notLeaving_of_entry (h : s.queueSound) (hg : s.outbound.table[t] = some e) :
    s.membership.leavePending = false := Bool.eq_false_iff.mpr fun hv => by
  rw [(h.leaving hv).2.2] at hg
  cases hg

theorem notLeaving_of_link (h : s.queueSound) (hl : s.membership.link ≠ .draining) :
    s.membership.leavePending = false := Bool.eq_false_iff.mpr fun hv => hl (h.leaving hv).1

theorem notLeaving_of_posted (h : s.queueSound) (hp : s.aperture.posted ≠ []) : s.membership.leavePending = false :=
  Bool.eq_false_iff.mpr fun hv => hp (h.leaving hv).2.1

/-- A choice between two states. -/
theorem either {c : Prop} [Decidable c] {u : State} (h : s.queueSound) (hu : u.queueSound) :
    (if c then s else u).queueSound := by
  split <;> assumption

/-- The entry of one tag changes, with its place in the queued order, while the station takes part and no LEAVE is pending. -/
theorem change (h : s.queueSound) (hp : s.takesPart = true) (hv : s.membership.leavePending = false)
    {o : Option TransEntry} {queued : List Tag} (hn : queued.Nodup)
    (hother : ∀ u, u ≠ t → (u ∈ queued ↔ u ∈ s.outbound.queued)) (hself : t ∈ queued ↔ isQueued o)
    (ho : ∀ e, o = some e → e.state = .queued → e.target ≠ s.membership.own) (hs : s.sends t → s.carried o)
    (issueBits : Vector Bool 16) :
    ({ s with outbound := { table := s.outbound.table.set t o, issueBits, queued } } : State).queueSound := by
  refine ⟨hn, fun u => ?_, fun u e hg he => ?_, fun u f hf => ?_, fun hp' => ?_, fun hv' => ?_, fun f hf => h.leave_pending hf⟩
  · rw [table_set_at]
    split
    · rename_i hu
      exact hu ▸ hself
    · rename_i hu
      exact (hother u (Ne.symm hu)).trans (h.mem_queued u)
  · rw [table_set_at] at hg
    split at hg
    · exact ho e hg he
    · exact h.target_ne_own hg he
  · rw [table_set_at]
    split
    · rename_i hu
      exact hs ⟨f, hu ▸ hf⟩
    · exact h.carried ⟨f, hf⟩
  · rw [show s.takesPart = false from hp'] at hp
    cases hp
  · rw [show s.membership.leavePending = true from hv'] at hv
    cases hv

/-- An entry changes in what the queued order and the medium do not read. -/
theorem setEntry (h : s.queueSound) (hg : s.outbound.table[t] = some e) {f : TransEntry} (he : e.state ≠ .queued)
    (hf : f.state ≠ .queued) (hs : s.sends t → f.state = .onAir ∧ f.target = e.target) : (s.setEntry t f).queueSound := by
  refine h.change (h.takesPart hg) (h.notLeaving_of_entry hg) h.nodup (fun _ _ => Iff.rfl) ?_ (fun g hg hq => ?_)
    (fun hx => ?_) _
  · rw [h.mem_queued_iff hg, isQueued_some]
    exact iff_of_false he hf
  · cases hg
    exact absurd hq hf
  · obtain ⟨g, hg', -, ht⟩ := h.carried hx
    obtain rfl := Option.some.inj (hg.symm.trans hg')
    obtain ⟨hon, htarget⟩ := hs hx
    exact ⟨f, rfl, hon, htarget ▸ ht⟩

/-- A tag whose frame is not on the medium is freed (R73). -/
theorem freeEntry (h : s.queueSound) (hg : s.outbound.table[t] = some e) (hs : ¬s.sends t) :
    (s.freeEntry t).queueSound := by
  refine h.change (h.takesPart hg) (h.notLeaving_of_entry hg) (h.nodup.filter _) (fun u hu => ?_)
    (iff_of_false (by simp) not_isQueued_none) nofun (fun hx => absurd hx hs) _
  simp [List.mem_filter, hu]

/-- Another medium: the frame on it is that of an ON-AIR entry, or a pending LEAVE. -/
theorem withLink (h : s.queueSound) {u : LinkUnit}
    (hs : ∀ t f, u.phase = .own { owner := .transaction t, frame := f } → s.carried s.outbound.table[t])
    (hl : ∀ f, u.phase = .own { owner := .leave, frame := f } → s.membership.leavePending = true) :
    ({ s with link := u } : State).queueSound :=
  ⟨h.1, h.2.1, h.2.2.1, hs, h.2.2.2.2.1, h.2.2.2.2.2.1, hl⟩

/-- Another medium with no frame on it that was not there before. -/
theorem withPhase (h : s.queueSound) {u : LinkUnit} (hu : ∀ tx, u.phase = .own tx → s.link.phase = .own tx) :
    ({ s with link := u } : State).queueSound :=
  h.withLink (fun _ f hf => h.carried ⟨f, hu _ hf⟩) fun _ hf => h.leave_pending (hu _ hf)

/-- A buffer that stays empty where it was. -/
theorem withAperture (h : s.queueSound) {u : Aperture} (hu : s.aperture.posted = [] → u.posted = []) :
    ({ s with aperture := u } : State).queueSound := by
  obtain ⟨h1, h2, h3, h4, h5, h6, h7⟩ := h
  exact ⟨h1, h2, h3, h4, h5, fun hv => (h6 hv).imp_right fun hx => hx.imp_left hu, h7⟩

/-- Any buffer, while no LEAVE is pending. -/
theorem withPosted (h : s.queueSound) (hv : s.membership.leavePending = false) (u : Aperture) :
    ({ s with aperture := u } : State).queueSound := by
  obtain ⟨h1, h2, h3, h4, h5, -, h7⟩ := h
  exact ⟨h1, h2, h3, h4, h5, fun hv' => absurd (hv'.symm.trans hv) (by decide), h7⟩

/-! ## Operations that all blocks share -/

theorem hear (h : s.queueSound) (i : Station) : (s.hear i).queueSound := by
  obtain ⟨_, _, e⟩ := s.hear_touches i
  rw [e]
  exact h

theorem hearLeave (h : s.queueSound) (i : Station) : (s.hearLeave i).queueSound := by
  obtain ⟨_, _, e⟩ := s.hearLeave_touches i
  rw [e]
  exact h

theorem reportNoAck (h : s.queueSound) (e : TransEntry) : (s.reportNoAck e).queueSound := by
  obtain ⟨_, _, e⟩ := s.reportNoAck_touches e
  rw [e]
  exact h

theorem closeFilter (h : s.queueSound) (i : Station) (t : Tag) (b : Bool) : (s.closeFilter i t b).queueSound := by
  obtain ⟨_, e⟩ := s.closeFilter_touches i t b
  rw [e]
  exact h

theorem portRequest (h : s.queueSound) (r : Requester) (q : Request) : (s.portRequest r q).queueSound := by
  obtain ⟨_, e⟩ := s.portRequest_touches r q
  rw [e]
  exact h

theorem portNext (h : s.queueSound) : s.portNext.queueSound := by
  obtain ⟨_, e⟩ := s.portNext_touches
  rw [e]
  exact h

theorem acceptDecision (h : s.queueSound) (i : Station) (t : Tag) (b : Bool) (o : Offer) :
    (acceptDecision i t b o s).2.queueSound := by
  obtain ⟨_, _, _, e, -⟩ := acceptDecision_touches s i t b o
  rw [e]
  exact h

/-- The LEAVE becomes pending over an empty table and an empty buffer (R109). -/
theorem checkDrain (h : s.queueSound) : s.checkDrain.queueSound := by
  unfold State.checkDrain
  split
  · rename_i hd
    obtain ⟨hl, hd⟩ := hd
    simp only [State.drained, Bool.and_eq_true, List.isEmpty_iff, List.all_eq_true, Option.isNone_iff_eq_none] at hd
    obtain ⟨h1, h2, h3, h4, h5, -, -⟩ := h
    refine ⟨h1, h2, h3, h4, h5, fun _ => ⟨hl, hd.1.2, fun t => hd.1.1 _ ?_⟩, fun _ _ => rfl⟩
    exact Vector.mem_toList_iff.mpr (Vector.getElem_mem t.isLt)
  · exact h

/-! ## Ends of transactions and attempts -/

theorem endPosted (h : s.queueSound) (p : Place) (st : Status) : (s.endPosted p st).queueSound := by
  unfold State.endPosted
  have hdrop : (s.dropPosted p).queueSound :=
    h.withAperture (u := { s.aperture with posted := s.aperture.posted.filter fun e => decide (e.place ≠ p) })
      fun hn => by rw [hn]; rfl
  split
  · exact h
  · exact hdrop.either hdrop

theorem deliver (h : s.queueSound) (o : Origin) (st : Status) (data : List Word) : (s.deliver o st data).queueSound := by
  cases o with
  | apertureRead =>
    obtain ⟨_, _, e⟩ := s.endLoad_touches st data
    rw [State.deliver, e]
    exact h
  | posted p => exact h.endPosted p st
  | slot k => exact h

theorem endEntry (h : s.queueSound) (hs : ¬s.sends t) (st : Status) (data : List Word) :
    (s.endEntry t st data).queueSound := by
  unfold State.endEntry
  split
  · exact h
  · exact (h.freeEntry ‹_› hs).deliver _ _ _

/-- An attempt of an entry that is not QUEUED, and whose frame is off the medium, has ended (R64 to R66). -/
theorem afterAttempt (h : s.queueSound) (hs : ¬s.sends t) (hq : t ∉ s.outbound.queued) (code : AckCode) :
    (s.afterAttempt t code).queueSound := by
  have ends (st : Status) : (s.endEntry t st []).queueSound := h.endEntry hs st []
  unfold State.afterAttempt
  split
  · exact h
  · rename_i e he
    have hset {f : TransEntry} (hf : f.state ≠ .queued) : (s.setEntry t f).queueSound :=
      h.setEntry he (mt (h.mem_queued_iff he).mpr hq) hf fun hx => absurd hx hs
    cases code with
    | accept => exact .either (hset nofun) (ends _)
    | refuse => exact ends _
    | stale => exact ends _
    | busy => exact .either (hset nofun) (ends _)
    | nothing => exact .either (hset nofun) ((ends _).reportNoAck _)

theorem matchResponse (h : s.queueSound) {i : Station} {b : Bool} (hs : s.sends t → i = s.membership.own) (st : WireStatus)
    (data : List Word) : (matchResponse i t b st data s).2.queueSound := by
  unfold Machine.matchResponse
  split
  · rename_i e he
    split
    · rename_i hf
      refine h.endEntry (fun hx => ?_) _ _
      simp only [TransEntry.fits, Bool.and_eq_true, beq_iff_eq] at hf
      exact h.not_sends he (.inr (hf.1.2.trans (hs hx))) hx
    · exact h
  · exact h

/-! ## Presentations -/

theorem loopbackAnswer (h : s.queueSound) (t : Tag) (e : TransEntry) : (s.loopbackAnswer t e).2.queueSound := by
  unfold State.loopbackAnswer
  split
  · split
    · exact h.acceptDecision _ _ _ _
    · exact h
  · exact h

/-- An entry that is not QUEUED, and whose frame is off the medium, is presented to the own Inbound Unit (R71). -/
theorem presentLoopback (h : s.queueSound) (hs : ¬s.sends t) (hq : t ∉ s.outbound.queued) :
    (s.presentLoopback t).queueSound := by
  unfold State.presentLoopback
  split
  · exact h
  · rename_i e he
    have hset : (s.setEntry t { e with state := .onAir }).queueSound :=
      h.setEntry he (mt (h.mem_queued_iff he).mpr hq) nofun fun hx => absurd hx hs
    obtain ⟨hob, hlink⟩ := State.loopbackAnswer_frame (s.setEntry t { e with state := .onAir }) t e
    refine (hset.loopbackAnswer t e).afterAttempt ?_ ?_ _
    · rw [State.sends, hlink]
      exact hs
    · rw [hob]
      exact hq

theorem take (h : s.queueSound) (o : Origin) : (s.take o).queueSound := by
  cases o with
  | apertureRead =>
    simp only [State.take]
    split <;> exact h
  | posted p => exact h.withAperture fun hn => by simp [hn]
  | slot k => exact h

theorem not_mem_of_free (h : s.queueSound) (hg : s.outbound.table[t] = none) : t ∉ s.outbound.queued := by
  rw [h.mem_queued, hg]
  exact not_isQueued_none

theorem not_sends_of_free (h : s.queueSound) (hg : s.outbound.table[t] = none) : ¬s.sends t := fun hs => by
  obtain ⟨e, he, -⟩ := h.carried hs
  rw [hg] at he
  cases he

/-- A free tag takes an entry that is not QUEUED (R57, R71). -/
theorem newEntry (h : s.queueSound) (hp : s.takesPart = true) (hv : s.membership.leavePending = false)
    (hg : s.outbound.table[t] = none) (he : e.state ≠ .queued) (issueBits : Vector Bool 16) :
    ({ s with outbound := { table := s.outbound.table.set t (some e), issueBits, queued := s.outbound.queued } } :
      State).queueSound :=
  h.change hp hv h.nodup (fun _ _ => Iff.rfl) (iff_of_false (h.not_mem_of_free hg) fun hx => he (isQueued_some.mp hx))
    (fun f hf hq => by cases hf; exact absurd hq he) (fun hs => absurd hs (h.not_sends_of_free hg)) issueBits

/-- A tag that is not QUEUED and whose frame is off the medium is QUEUED last (R57, R62, R65). -/
theorem queueLast (h : s.queueSound) (hp : s.takesPart = true) (hv : s.membership.leavePending = false)
    (hout : t ∉ s.outbound.queued) (hoff : ¬s.sends t) (he : e.state = .queued) (ht : e.target ≠ s.membership.own)
    (issueBits : Vector Bool 16) :
    ({ s with
      outbound := { table := s.outbound.table.set t (some e), issueBits, queued := s.outbound.queued ++ [t] } } :
        State).queueSound := by
  refine h.change hp hv ?_ (fun u hu => by simp [hu]) (iff_of_true (by simp) (isQueued_some.mpr he))
    (fun f hf _ => by cases hf; exact ht) (fun hs => absurd hs hoff) issueBits
  exact List.nodup_append.mpr ⟨h.nodup, List.nodup_singleton t, fun u hu v hv => by
    rintro rfl
    exact hout (List.mem_singleton.mp hv ▸ hu)⟩

/-- A free tag is allocated: QUEUED last for another station, presented at once for the own one (R57, R61, R62, R71). -/
theorem allocate (h : s.queueSound) (hp : s.takesPart = true) (hv : s.membership.leavePending = false) (o : Origin)
    (target : Station) (body : TransBody) : (s.allocate o target body).queueSound := by
  unfold State.allocate
  split
  · exact h
  · rename_i t ht
    have hfree : s.entryAt t = none := by simpa using List.find?_some ht
    have htake := h.take o
    obtain ⟨hob, -, hmem⟩ := s.take_frame o
    have hp' : (s.take o).takesPart = true := by rw [State.takesPart, hmem]; exact hp
    have hv' : (s.take o).membership.leavePending = false := by rw [hmem]; exact hv
    have hfree' : (s.take o).outbound.table[t] = none := by rw [hob]; exact hfree
    have hout := htake.not_mem_of_free hfree'
    have hoff := htake.not_sends_of_free hfree'
    by_cases hl : target = s.membership.own
    · simp only [hl, decide_true, if_true]
      refine presentLoopback (htake.newEntry hp' hv' hfree' ?_ _) hoff hout
      nofun
    · simp only [hl, decide_false, Bool.false_eq_true, if_false]
      exact htake.queueLast hp' hv' hout hoff rfl (by rw [hmem]; exact hl) _

/-- A presentation allocates only while the station takes part, and then for a posted entry alone in DRAINING (R60). -/
theorem presentationCheck_none {o : Origin} {target : Station} {body : TransBody}
    (hc : s.presentationCheck o target body = none) :
    s.takesPart = true ∧ (s.membership.link = .draining → ∃ p, o = .posted p) := by
  have hl : s.membership.link = .online ∨ s.membership.link = .draining ∧ ∃ p, o = .posted p := by
    by_contra hn
    have hc' : s.presentationCheck o target body = some .linkDown := by
      cases o <;> simp_all [State.presentationCheck]
    cases hc.symm.trans hc'
  obtain hl | ⟨hl, ho⟩ := hl
  · exact ⟨by simp [State.takesPart, hl], fun hd => absurd (hl.symm.trans hd) (by decide)⟩
  · exact ⟨by simp [State.takesPart, hl], fun _ => ho⟩

/-- A presentation (R58 to R61); that of a posted entry with no LEAVE pending. -/
theorem present (h : s.queueSound) {o : Origin} (hv : (∃ p, o = .posted p) → s.membership.leavePending = false)
    (target : Station) (body : TransBody) : (s.present o target body).queueSound := by
  unfold State.present
  split
  · exact h.deliver _ _ _
  · obtain ⟨hp, hd⟩ := presentationCheck_none ‹_›
    refine h.allocate hp ?_ _ _ _
    by_cases hl : s.membership.link = .draining
    · exact hv (hd hl)
    · exact h.notLeaving_of_link hl

theorem presentSlot (h : s.queueSound) (k : SlotNo) : (s.presentSlot k).queueSound := by
  unfold State.presentSlot
  split
  · exact h.present (by rintro ⟨_, ⟨⟩⟩) _ _
  · exact h

theorem presentLoad (h : s.queueSound) : s.presentLoad.queueSound := by
  unfold State.presentLoad
  split
  · exact .either (h.present (by rintro ⟨_, ⟨⟩⟩) _ _) h
  · exact h

theorem presentPosted (h : s.queueSound) (hp : s.aperture.posted ≠ []) (e : PostedEntry) : (s.presentPosted e).queueSound :=
  h.present (fun _ => h.notLeaving_of_posted hp) _ _

/-! ## Stores and the follow-ons of a removal (R124, R127) -/

theorem appendPosted (h : s.queueSound) (hl : s.membership.link = .online) (st : HeldStore) :
    (s.appendPosted st).queueSound := by
  have hv := h.notLeaving_of_link (by rw [hl]; decide)
  have happ (posted : List PostedEntry) : ({ s with aperture := { s.aperture with posted := posted } } : State).queueSound :=
    h.withPosted hv _
  unfold State.appendPosted
  simp only
  split
  · exact presentPosted (happ _) (by simp) _
  · exact happ _

theorem placeStore (h : s.queueSound) (hl : s.membership.link = .online) (st : HeldStore) : (s.placeStore st).queueSound := by
  have hv := h.notLeaving_of_link (by rw [hl]; decide)
  unfold State.placeStore
  split
  · exact h.withPosted hv _
  · exact .either (appendPosted (s := s.releaseHost .done) h hl st) h

theorem endHeldStore (h : s.queueSound) : s.endHeldStore.queueSound := by
  unfold State.endHeldStore
  split
  · refine .either h ?_
    split
    · rename_i hl
      exact h.placeStore hl.1 _
    · exact h
  · exact h

theorem completeFence (h : s.queueSound) : s.completeFence.queueSound := h

theorem followOnce (h : s.queueSound) {u : State} (hu : s.followOnce = some u) : u.queueSound := by
  unfold State.followOnce at hu
  split at hu
  · rename_i e he
    cases hu
    exact h.presentPosted (List.ne_nil_of_mem (List.mem_of_find?_eq_some he)) e
  split at hu
  · cases hu
    exact h.endHeldStore
  split at hu
  · cases hu
    exact h.presentLoad
  split at hu
  · cases hu
    exact h.presentSlot _
  split at hu
  · cases hu
    exact h.completeFence
  · cases hu

theorem followOns (n : Nat) : ∀ {s : State}, s.queueSound → (s.followOns n).queueSound := by
  induction n with
  | zero => exact id
  | succ n ih =>
    intro s h
    unfold State.followOns
    split
    · exact ih (h.followOnce ‹_›)
    · exact h

theorem followThrough (h : s.queueSound) : s.followThrough.queueSound := (h.followOns _).checkDrain

theorem presentPlace (h : s.queueSound) (p : Place) : (s.presentPlace p).queueSound := by
  unfold State.presentPlace
  split
  · rename_i e he
    have hpres : (s.presentPosted e).queueSound :=
      h.presentPosted (List.ne_nil_of_mem (List.mem_of_find?_eq_some he)) e
    exact .either (.either hpres.followThrough hpres) h
  · exact h

/-! ## The Inbound Engine and the Memory Port -/

/-- The own reply ends no entry for another station, so not the one whose frame is on the medium (R35, R68). -/
theorem loopbackReply (h : s.queueSound) {e : ListEntry} (he : e.source = s.membership.own) (st : WireStatus)
    (data : List Word) : (s.loopbackReply e st data).queueSound := by
  have hm : (Machine.matchResponse e.source e.tag e.issue st data s).2.queueSound := h.matchResponse (fun _ => he) st data
  exact (closeFilter (s := (Machine.matchResponse e.source e.tag e.issue st data s).2.removeExecuting) hm _ _ _).followThrough

theorem endExecution (h : s.queueSound) (st : WireStatus) (data : List Word) : (s.endExecution st data).queueSound := by
  unfold State.endExecution
  split
  · exact h
  · rename_i e _
    have hev : (if st = .ok then s else s.addEvent (.rejected e st)).queueSound := .either h h
    have hmem : (if st = .ok then s else s.addEvent (.rejected e st)).membership = s.membership := by split <;> rfl
    simp only
    generalize (if st = .ok then s else s.addEvent (.rejected e st)) = u at hev hmem
    split
    · exact checkDrain (s := u.removeExecuting) hev
    split
    · exact hev.loopbackReply ‹_› st data
    · exact hev

theorem translated (h : s.queueSound) (m : MapEntry) : (s.translated m).queueSound := by
  unfold State.translated
  split
  · exact h
  · rename_i e _
    have hup : (s.updateExecuting fun g => { g with localAddr := some (localAddress m e.offset) }).queueSound := h
    refine .either (h.endExecution _ _) ?_
    simp only
    split
    · exact hup.endExecution _ _
    · exact hup.portRequest _ _

theorem lookup (h : s.queueSound) (p : Page) : (s.lookup p).queueSound := by
  have hm (m : WindowMap) : ({ s with map := m } : State).queueSound := h
  unfold State.lookup
  split
  · exact (hm _).translated _
  · exact (hm _).portRequest _ _

theorem startExecution (h : s.queueSound) : s.startExecution.queueSound := by
  have hi (u : Inbound) : ({ s with inbound := u } : State).queueSound := h
  unfold State.startExecution
  split
  · exact h
  · simp only
    split
    · exact hi _
    · exact .either ((hi _).endExecution _ _) ((hi _).lookup _)

theorem fillEnded (h : s.queueSound) (r : ReadResult) : (s.fillEnded r).queueSound := by
  have hm (m : WindowMap) : ({ s with map := m } : State).queueSound := h
  unfold State.fillEnded
  split
  · exact h
  · exact .either ((hm _).portRequest _ _) (.either ((hm _).translated _) ((hm _).endExecution _ _))

theorem dataEnded (h : s.queueSound) (r : ReadResult) : (s.dataEnded r).queueSound :=
  .either (h.endExecution _ _) (h.endExecution _ _)

theorem discardEnded (h : s.queueSound) (c : Cycle) : (s.discardEnded c).queueSound :=
  .either (checkDrain (s := s.removeExecuting) h) h

theorem updateEnded (h : s.queueSound) (c : Cycle) (r : ReadResult) : (s.updateEnded c r).queueSound := by
  unfold State.updateEnded
  split
  · exact .either h h
  · exact h

theorem maintReadEnded (h : s.queueSound) (c : Cycle) (r : ReadResult) : (s.maintReadEnded c r).queueSound := .either h h

theorem handOver (h : s.queueSound) (c : Cycle) (r : ReadResult) {f : ReadResult → State → State}
    (hf : ∀ {u : State}, u.queueSound → (f r u).queueSound) : (s.handOver c r f).queueSound := by
  have hm : ({ s with memory := r.memory } : State).queueSound := h
  exact (either (hf hm) (hm.discardEnded c)).portNext

theorem endCycle (h : s.queueSound) (meant : Cycle → Bool) (ts : List Transfer) {f : Cycle → ReadResult → State → State}
    (hf : ∀ {u : State} c r, u.queueSound → (f c r u).queueSound) : (s.endCycle meant ts f).queueSound := by
  unfold State.endCycle
  split
  · exact .either (h.handOver _ _ (hf _ _)) h
  · exact h

theorem endReadPhase (h : s.queueSound) (c : Cycle) (op : AtomicOp) (t : Transfer) : (s.endReadPhase c op t).queueSound :=
  .either h (h.handOver c _ fun hu => hu.dataEnded _)

/-! ## CONFLICT, OFFLINE and the resets -/

/-- With an empty table, no LEAVE pending and no own frame on the medium the queued order is sound if it is empty. -/
theorem of_empty (hq : s.outbound.queued = []) (ht : ∀ t : Tag, s.outbound.table[t] = none)
    (hv : s.membership.leavePending = false) (hp : ∀ tx, s.link.phase ≠ .own tx) : s.queueSound := by
  refine ⟨by simp [hq], fun t => by simp [hq, ht], fun t e hg => ?_, fun t f hf => absurd hf (hp _), fun _ => ht,
    fun hx => ?_, fun f hf => absurd hf (hp _)⟩
  · rw [ht] at hg
    cases hg
  · rw [hv] at hx
    cases hx

theorem failAllPosted (h : s.queueSound) : s.failAllPosted.queueSound := by
  have fold (es : List PostedEntry) : ∀ {u : State}, u.queueSound →
      (es.foldl (fun u e => u.failPosted e .linkDown) u).queueSound := by
    induction es with
    | nil => exact id
    | cons e es ih => exact fun {u} hu => ih (u := u.failPosted e .linkDown) hu
  exact fold _ (h.withAperture (u := { s.aperture with posted := [] }) fun _ => rfl)

theorem endHeldAtConflict (h : s.queueSound) : s.endHeldAtConflict.queueSound := by
  unfold State.endHeldAtConflict
  split
  · exact h.deliver .apertureRead _ _
  · exact h
  · exact h
  · exact h

theorem enterConflict (h : s.queueSound) (hp : ∀ tx, s.link.phase ≠ .own tx) : s.enterConflict.queueSound := by
  unfold State.enterConflict
  split
  · exact h
  · exact h
  · obtain ⟨_, e⟩ := s.setLink_touches .conflict
    rw [e]
    refine (failAllPosted ?_).endHeldAtConflict
    exact of_empty rfl emptyTable_at rfl hp

/-- What is heard comes after the CRC of another station's frame: no own frame is on the medium (R79). -/
theorem heard (h : s.queueSound) (i : Station) {f : State → State}
    (hf : ∀ {u : State}, u.queueSound → (∀ tx, u.link.phase ≠ .own tx) → (f u).queueSound) : (s.heard i f).queueSound := by
  have hl : ({ s with link := s.link.afterCrc } : State).queueSound := h.withPhase nofun
  exact .either (.either (hl.enterConflict nofun) (hf hl nofun)) h

/-- OFFLINE is reached by leave over an empty table (R107, R110). -/
theorem offlineByLeave (h : s.queueSound) (ht : ∀ t : Tag, s.outbound.table[t] = none) : s.offlineByLeave.queueSound := by
  obtain ⟨_, e⟩ := s.setLink_touches .offline
  unfold State.offlineByLeave
  rw [e]
  refine of_empty ?_ ht rfl nofun
  refine List.eq_nil_iff_forall_not_mem.mpr fun t hx => ?_
  have := (h.mem_queued t).mp hx
  rw [ht] at this
  exact not_isQueued_none this

/-- A change of the link state from any but DRAINING, in which no LEAVE is pending; the table is empty if the station does not
take part from then on. -/
theorem setLink (h : s.queueSound) {l : LinkState} (hd : s.membership.link ≠ .draining)
    (ht : l = .online ∨ l = .draining ∨ s.takesPart = false) : (s.setLink l).queueSound := by
  obtain ⟨_, e⟩ := s.setLink_touches l
  have hv := h.notLeaving_of_link hd
  rw [e]
  refine ⟨h.1, h.2.1, h.2.2.1, h.2.2.2.1, fun hp => ?_, fun hx => absurd (hx.symm.trans hv) (by decide), fun f hf =>
    h.leave_pending hf⟩
  obtain rfl | rfl | ht := ht
  · cases hp
  · cases hp
  · exact h.table_empty ht

theorem leaveLink (h : s.queueSound) : s.leaveLink.queueSound := by
  have outside (hp : s.takesPart = false) : s.offlineByLeave.queueSound := h.offlineByLeave (h.table_empty hp)
  unfold State.leaveLink
  split
  · exact h
  · exact h
  · exact outside (by simp [State.takesPart, *])
  · exact outside (by simp [State.takesPart, *])
  · exact outside (by simp [State.takesPart, *])
  · exact (h.setLink (by simp [*]) (.inr (.inl rfl))).checkDrain

/-- JOIN gives an empty table a new own number (R103). -/
theorem joinLink (h : s.queueSound) (hl : s.membership.link = .offline) (stn : Station) (rate : BitVec 2) :
    (s.joinLink stn rate).queueSound := by
  have hp : s.takesPart = false := by simp [State.takesPart, hl]
  have hv := h.notLeaving_of_link (by rw [hl]; decide)
  obtain ⟨_, e⟩ := s.setLink_touches .listening
  unfold State.joinLink
  rw [e]
  refine of_empty ?_ (h.table_empty hp) hv nofun
  refine List.eq_nil_iff_forall_not_mem.mpr fun t hx => ?_
  have := (h.mem_queued t).mp hx
  rw [h.table_empty hp] at this
  exact not_isQueued_none this

theorem joinOrLeave (h : s.queueSound) (stn : Station) (rate : BitVec 2) (b : Bool) :
    (s.joinOrLeave stn rate b).queueSound := by
  unfold State.joinOrLeave
  split
  · exact h.joinLink ‹_› stn rate
  · exact .either h.leaveLink h

theorem softReset (s : State) (b : Bool) : (s.softReset b).queueSound :=
  of_empty rfl emptyTable_at rfl nofun

theorem powerOn (s : State) : s.powerOn.queueSound :=
  of_empty rfl emptyTable_at rfl nofun

theorem notReset (h : s.queueSound) : s.notReset.queueSound :=
  portNext (s := { s with
    pins := { s.pins with resetLow := false }, host := { s.host with startup := some Config.hostStartup } }) h

theorem assertReset (h : s.queueSound) (landed : List Bool) : (s.assertReset landed).queueSound := by
  refine h.withPhase (u := s.link.cutOff) fun tx hx => ?_
  simp only [LinkUnit.cutOff] at hx
  split at hx
  · cases hx
  · exact hx

/-! ## Frames sent -/

theorem updateReply (h : s.queueSound) (i : Station) (t : Tag) (st : ListState) (f : ListEntry → ListEntry) :
    (s.updateReply i t st f).queueSound := h

theorem removeReply (h : s.queueSound) (i : Station) (t : Tag) : (s.removeReply i t).queueSound := by
  have hi (u : Inbound) : ({ s with inbound := u } : State).queueSound := h
  unfold State.removeReply
  split
  · exact h
  · exact ((hi _).closeFilter _ _ _).checkDrain

theorem failReply (h : s.queueSound) (i : Station) (t : Tag) : (s.failReply i t).queueSound := by
  unfold State.failReply
  split
  · exact h
  · exact .either (h.updateReply i t _ _) (h.removeReply i t)

/-- The entry at the head of the queued order goes on the air and leaves the order (R62, R91). -/
theorem goOnAir_head (h : s.queueSound) (hs : ∀ tx, s.link.phase ≠ .own tx) {rest : List Tag}
    (hq : s.outbound.queued = t :: rest) (hg : s.outbound.table[t] = some e) (f : RawFrame) :
    (s.startFrame { owner := .transaction t, frame := f }).queueSound := by
  have hn : t ∉ rest ∧ rest.Nodup := List.nodup_cons.mp (hq ▸ h.nodup)
  have hqueued : e.state = .queued := (h.mem_queued_iff hg).mp (by simp [hq])
  have ht := h.target_ne_own hg hqueued
  rw [State.startFrame_transaction hq hg]
  have hair := h.change (t := t) (o := some { e with state := .onAir }) (h.takesPart hg) (h.notLeaving_of_entry hg) hn.2
    (fun u hu => by simp [hq, hu]) (iff_of_false hn.1 fun hx => by cases isQueued_some.mp hx)
    (fun f hf _ => by cases hf; exact ht) (fun ⟨_, hx⟩ => absurd hx (hs _)) s.outbound.issueBits
  refine hair.withLink (u := s.link.sending { owner := .transaction t, frame := f }) (fun u g hu => ?_) nofun
  cases hu
  exact ⟨{ e with state := .onAir }, by rw [table_set_at, if_pos rfl], rfl, ht⟩

end State.queueSound

/-- A request that is offered stands at the head of the queued order (R62, R90). -/
theorem State.offered_transaction {s : State} {tx : Transmission} (h : s.offered = some tx) {t : Tag}
    (ho : tx.owner = .transaction t) :
    ∃ e rest, s.outbound.queued = t :: rest ∧ s.outbound.table[t] = some e := by
  have pending {tx : Transmission} (h : s.pendingMembership = some tx) : tx.owner ≠ .transaction t := fun ho => by
    unfold State.pendingMembership at h
    split_ifs at h
    · cases h
      cases ho
    · cases h
      cases ho
  unfold State.offered at h
  split at h
  case h_1 | h_2 =>
    split at h
    · cases h
      cases ho
    split at h
    · cases h
      exact absurd ho (pending ‹_›)
    · obtain ⟨r, hr, rfl⟩ := Option.map_eq_some_iff.mp h
      cases ho
      unfold State.headRequest at hr
      split at hr
      · cases hr
      · rename_i u rest hq
        split at hr
        · cases hr
        · obtain ⟨e, he, rfl⟩ := Option.map_eq_some_iff.mp hr
          exact ⟨e, rest, hq, he⟩
  case h_3 => exact absurd ho (pending h)
  case h_4 => cases h

namespace State.queueSound

variable {s : State} {t : Tag} {e : TransEntry}

/-- A frame that is offered starts (R90, R91). -/
theorem startFrame (h : s.queueSound) (hs : ∀ tx, s.link.phase ≠ .own tx) {tx : Transmission} (ho : s.offered = some tx) :
    (s.startFrame tx).queueSound := by
  obtain ⟨owner, f⟩ := tx
  cases owner with
  | transaction t =>
    obtain ⟨e, rest, hq, hg⟩ := State.offered_transaction ho rfl
    exact h.goOnAir_head hs hq hg f
  | reply i t =>
    refine withLink (s := s.goOnAir (.reply i t)) h (fun _ _ hf => ?_) fun _ hf => ?_
    · cases hf
    · cases hf
  | announce =>
    refine withLink h (fun _ _ hf => ?_) fun _ hf => ?_
    · cases hf
    · cases hf
  | leave =>
    refine withLink h (fun _ _ hf => ?_) fun _ _ => State.offered_leave ho rfl
    cases hf

theorem transmit (h : s.queueSound) : s.transmit.queueSound := by
  unfold State.transmit
  split
  · have hi : ({ s with link := s.link.idleFor Config.interFrameGap } : State).queueSound := h.withPhase nofun
    simp only
    split
    · exact hi.startFrame nofun ‹_›
    · exact hi
  · exact h

theorem becomeListener (h : s.queueSound) : s.becomeListener.queueSound := h.withPhase nofun

theorem not_sends_of_quiet (hp : ∀ tx, s.link.phase ≠ .own tx) : ¬s.sends t := fun ⟨_, hf⟩ => hp _ hf

/-- The entry of a request frame is not QUEUED (R62). -/
theorem not_mem_of_sends (h : s.queueSound) (hs : s.sends t) : t ∉ s.outbound.queued := fun hx => by
  obtain ⟨e, he, hon, -⟩ := h.carried hs
  rw [(h.mem_queued_iff he).mp hx] at hon
  cases hon

/-- The entry of the request frame that lost arbitration goes back to the head of the queued order, or ends (R63, R75). -/
theorem handBack_transaction (h : s.queueSound) (hs : s.sends t) :
    (s.becomeListener.handBack (.transaction t)).queueSound := by
  obtain ⟨e, he, hon, ht⟩ := h.carried hs
  have hl := h.becomeListener
  have hoff : ¬s.becomeListener.sends t := not_sends_of_quiet nofun
  rw [State.handBack_transaction (s := s.becomeListener) he]
  refine .either (hl.endEntry hoff _ _).followThrough ?_
  exact hl.change (hl.takesPart he) (hl.notLeaving_of_entry he) (List.nodup_cons.mpr ⟨h.not_mem_of_sends hs, h.nodup⟩)
    (fun u hu => by simp [hu]) (iff_of_true (by simp) (isQueued_some.mpr rfl)) (fun f hf _ => by cases hf; exact ht)
    (fun hx => absurd hx hoff) _

theorem handBack (h : s.queueSound) {tx : Transmission} (hp : s.link.phase = .own tx) :
    (s.becomeListener.handBack tx.owner).queueSound := by
  obtain ⟨owner, f⟩ := tx
  cases owner with
  | transaction t => exact h.handBack_transaction ⟨f, hp⟩
  | reply i t => exact h.becomeListener
  | announce => exact h.becomeListener
  | leave => exact h.becomeListener

theorem abortFrame (h : s.queueSound) {tx : Transmission} (hp : s.link.phase = .own tx) :
    (s.becomeListener.abortFrame tx.owner).queueSound := by
  obtain ⟨owner, f⟩ := tx
  cases owner with
  | transaction t =>
    have hout : t ∉ s.outbound.queued := h.not_mem_of_sends ⟨f, hp⟩
    exact (h.becomeListener.afterAttempt (not_sends_of_quiet nofun) hout .nothing).followThrough
  | reply i t => exact h.becomeListener.failReply i t
  | announce => exact h.becomeListener
  | leave => exact h.becomeListener

theorem hearAnswer (h : s.queueSound) (i : Station) (code : AckCode) : (s.hearAnswer i code).queueSound :=
  .either h (h.hear i)

theorem afterSlot (h : s.queueSound) (b : Bool) : (s.afterSlot b).queueSound := h.withPhase nofun

theorem afterDelimiter (h : s.queueSound) : s.afterDelimiter.queueSound := h.withPhase nofun

/-- The slot of the own request ends an attempt of its ON-AIR entry (R64, R93). -/
theorem requestAnswered (h : s.queueSound) (hs : s.sends t) (dest : Station) (code : AckCode) :
    (s.requestAnswered t dest code).queueSound := by
  obtain ⟨_, _, e⟩ := State.hearAnswer_touches dest code (s.afterSlot true)
  have hout := h.not_mem_of_sends hs
  have hheard := (h.afterSlot true).hearAnswer dest code
  unfold State.requestAnswered
  rw [e] at hheard ⊢
  exact (hheard.afterAttempt (not_sends_of_quiet nofun) hout code).followThrough

theorem replyAnswered (h : s.queueSound) (i : Station) (t : Tag) (code : AckCode) : (s.replyAnswered i t code).queueSound := by
  have hh := (h.afterSlot false).hearAnswer i code
  cases code with
  | accept => exact hh.removeReply i t
  | stale => exact hh.removeReply i t
  | busy => exact hh.failReply i t
  | refuse => exact hh.failReply i t
  | nothing => exact hh.failReply i t

theorem announced (h : s.queueSound) : s.announced.queueSound := by
  have ha : ({ s.afterDelimiter with
      membership := { s.afterDelimiter.membership with announcePending := false } } : State).queueSound := h.afterDelimiter
  unfold State.announced
  simp only
  split
  · rename_i hl
    have hl : s.membership.link = .announcing := hl
    exact ha.setLink (by simp [hl]) (.inl rfl)
  · exact h.afterDelimiter

/-- The LEAVE that went out was pending over an empty table (R109). -/
theorem left (h : s.queueSound) {f : RawFrame} (hp : s.link.phase = .own { owner := .leave, frame := f }) :
    s.left.queueSound :=
  .either (h.offlineByLeave (h.leaving (h.leave_pending hp)).2.2) h.afterDelimiter

/-! ## Intervals and the medium -/

theorem endBackoff (h : s.queueSound) (t : Tag) : (s.endBackoff t).queueSound := by
  unfold State.endBackoff
  split
  · rename_i e he
    split
    · rename_i hb
      obtain ⟨hb, ht⟩ := hb
      have hne : e.state ≠ .queued ∧ e.state ≠ .onAir := by
        cases hst : e.state <;> simp_all [TransState.isBackoff]
      exact h.queueLast (e := { e with state := .queued }) (h.takesPart he) (h.notLeaving_of_entry he)
        (mt (h.mem_queued_iff he).mp hne.1) (h.not_sends he (.inl hne.2)) rfl ht _
    · exact h
  · exact h

theorem endLoopbackBackoff (h : s.queueSound) (t : Tag) : (s.endLoopbackBackoff t).queueSound := by
  unfold State.endLoopbackBackoff
  split
  · rename_i e he
    split
    · rename_i hb
      obtain ⟨hb, ht⟩ := hb
      have hne : e.state ≠ .queued := by cases hst : e.state <;> simp_all [TransState.isBackoff]
      exact (h.presentLoopback (h.not_sends he (.inr ht)) (mt (h.mem_queued_iff he).mp hne)).followThrough
    · exact h
  · exact h

theorem endReplyBackoff (h : s.queueSound) (i : Station) (t : Tag) : (s.endReplyBackoff i t).queueSound := by
  unfold State.endReplyBackoff
  split <;> exact h

theorem timeOut (h : s.queueSound) (t : Tag) : (s.timeOut t).queueSound := by
  unfold State.timeOut
  split
  · rename_i e he
    split
    · rename_i hw
      have hne : e.state ≠ .onAir := by cases hst : e.state <;> simp_all [TransState.isWaiting]
      exact (h.endEntry (h.not_sends he (.inl hne)) _ _).followThrough
    · exact h
  · exact h

theorem endRound (h : s.queueSound) : s.endRound.queueSound := .either (h.withPhase nofun) h

theorem endListen (h : s.queueSound) : s.endListen.queueSound := by
  unfold State.endListen
  split
  · rename_i hl
    have hann : (s.setLink .announcing).queueSound :=
      h.setLink (by simp [hl.1]) (.inr (.inr (by simp [State.takesPart, hl.1])))
    exact withPhase (u := (s.setLink .announcing).link.idleFor Config.joinListen) hann nofun
  · exact h

theorem endSync (h : s.queueSound) : s.endSync.queueSound := by
  unfold State.endSync
  split
  · exact h.withPhase nofun
  · exact h

theorem strayBit (h : s.queueSound) : s.strayBit.queueSound := by
  unfold State.strayBit
  split
  · exact h.withPhase nofun
  · exact .either (h.withPhase nofun) h

theorem startSeen (h : s.queueSound) : s.startSeen.queueSound := .either (h.withPhase nofun) h

theorem dropFrame (h : s.queueSound) (n : Nat) : (s.dropFrame n).queueSound := by
  refine .either (h.withPhase fun tx hx => ?_) h
  simp only [LinkUnit.giveUpFrame] at hx
  split at hx <;> cases hx

theorem endSlotAfterReset (h : s.queueSound) : s.endSlotAfterReset.queueSound := by
  unfold State.endSlotAfterReset
  split
  · exact h
  · exact .either (h.withPhase nofun) (h.withPhase fun _ hx => hx)

/-- One bit time takes no entry into or out of QUEUED and ON-AIR (R65, R67). -/
theorem tickTable (h : s.queueSound) (ns : Nat) :
    ({ s with outbound :=
      { s.outbound with
        table := s.outbound.table.map fun o => o.map fun e => { e with state := e.state.tick ns } } } : State).queueSound := by
  have hat (t : Tag) : (s.outbound.table.map fun o => o.map fun e => { e with state := e.state.tick ns })[t] =
      (s.outbound.table[t]).map fun e => { e with state := e.state.tick ns } := by simp
  have hqueued (e : TransEntry) : e.state.tick ns = .queued ↔ e.state = .queued := by
    cases e.state <;> simp [TransState.tick]
  refine ⟨h.nodup, fun t => ?_, fun t e he hq => ?_, fun t f hf => ?_, fun hp t => ?_, fun hv => ?_, fun f hf =>
    h.leave_pending hf⟩
  · rw [hat, h.mem_queued]
    simp [isQueued, hqueued]
  · rw [hat] at he
    obtain ⟨e, hg, rfl⟩ := Option.map_eq_some_iff.mp he
    exact h.target_ne_own (e := e) hg ((hqueued e).mp hq)
  · obtain ⟨e, hg, hon, ht⟩ := h.carried ⟨f, hf⟩
    rw [hat, hg]
    exact ⟨_, rfl, congrArg (TransState.tick ns) hon, ht⟩
  · rw [hat, h.table_empty hp]
    rfl
  · obtain ⟨hl, hposted, ht⟩ := h.leaving hv
    exact ⟨hl, hposted, fun t => by rw [hat, ht]; rfl⟩

theorem tick (h : s.queueSound) : s.tick.queueSound := by
  unfold State.tick
  split
  · exact h
  · refine withPhase (h.tickTable _) (u := (if s.follows then s.link.tick else s.link).tickSlot) fun tx hx => ?_
    have hx : (if s.follows then s.link.tick else s.link).phase = .own tx := hx
    split at hx
    · exact LinkUnit.tick_own hx
    · exact hx

/-! ## Frames heard -/

theorem decideOffer (h : s.queueSound) (i : Station) (t : Tag) (b : Bool) (o : Offer) :
    (s.decideOffer i t b o).queueSound := by
  unfold State.decideOffer
  simp only
  split
  · exact (h.hear i).acceptDecision i t b o |>.withPhase fun _ hx => hx
  · exact h.hear i

/-- A RESPONSE comes with no own frame on the medium, so it may end any entry (R68). -/
theorem answer (h : s.queueSound) (hp : ∀ tx, s.link.phase ≠ .own tx) (i : Station) (t : Tag) (b : Bool) (st : WireStatus)
    (data : List Word) : (s.answer i t b st data).queueSound := by
  have hlink : (s.hear i).link = s.link := by
    obtain ⟨_, _, e⟩ := s.hear_touches i
    rw [e]
  have hoff : ¬(s.hear i).sends t := not_sends_of_quiet (by rw [hlink]; exact hp)
  have hm := (h.hear i).matchResponse (i := i) (b := b) (fun hx => absurd hx hoff) st data
  exact .either (followThrough (s := (Machine.matchResponse i t b st data (s.hear i)).2.drive _)
    (hm.withPhase fun _ hx => hx)) (h.hear i)

/-! ## Host accesses -/

theorem setLimits (h : s.queueSound) (w : Word) : (s.setLimits w).queueSound := .either h h

theorem setMapBase (h : s.queueSound) (w : Word) : (s.setMapBase w).queueSound := .either h h

theorem clearLinkCause (h : s.queueSound) (w : Word) : (s.clearLinkCause w).queueSound := .either h h

theorem writeMaint (h : s.queueSound) (r : MaintRegister) (w : Word) : (s.writeMaint r w).queueSound := .either h h

theorem takeUpdate (h : s.queueSound) : s.takeUpdate.queueSound :=
  .either (portRequest (s := { s with map := { s.map with maint := { s.map.maint with state := .busyUpdate } } }) h _ _) h

theorem takeRead (h : s.queueSound) : s.takeRead.queueSound :=
  .either (portRequest (s := { s with map := { s.map with maint := { s.map.maint with state := .busyRead } } }) h _ _) h

theorem takeInvalidate (h : s.queueSound) : s.takeInvalidate.queueSound := .either h h

theorem maintCommand (h : s.queueSound) (w : Word) : (s.maintCommand w).queueSound :=
  .either h.takeUpdate (.either h.takeRead (.either h.takeInvalidate h))

theorem writeSlot (h : s.queueSound) (k : SlotNo) (r : SlotRegister) (w : Word) : (s.writeSlot k r w).queueSound :=
  .either h h

theorem goSlot (h : s.queueSound) (k : SlotNo) : (s.goSlot k).queueSound := by
  have hset (sl : Slot) : (s.setSlot k sl).queueSound := h
  unfold State.goSlot
  split
  · exact h
  · simp only
    split
    · exact hset _
    · exact .either ((hset _).presentSlot k) (hset _)

theorem releaseSlot (h : s.queueSound) (k : SlotNo) : (s.releaseSlot k).queueSound := .either h (.either h h)

/-- CANCEL ends an entry that is QUEUED or in BACKOFF and marks any other (R74, R146). -/
theorem cancelEntry (h : s.queueSound) (k : SlotNo) (t : Tag) : (s.cancelEntry k t).queueSound := by
  unfold State.cancelEntry
  split
  · exact h
  · rename_i e he
    have ends (hne : e.state ≠ .onAir) : (s.endEntry t .cancelled []).followThrough.queueSound :=
      (h.endEntry (h.not_sends he (.inl hne)) _ _).followThrough
    have marks (hne : e.state ≠ .queued) : (s.setEntry t { e with cancel := true }).queueSound :=
      h.setEntry he hne hne fun hs => by
        obtain ⟨f, hf, hon, -⟩ := h.carried hs
        obtain rfl := Option.some.inj (Eq.trans (Eq.symm he) hf)
        exact ⟨hon, rfl⟩
    split
    · exact ends (by simp [*])
    · exact ends (by simp [*])
    · exact marks (by simp [*])
    · exact marks (by simp [*])

theorem cancelSlot (h : s.queueSound) (k : SlotNo) : (s.cancelSlot k).queueSound := by
  unfold State.cancelSlot
  split
  · exact h
  · exact h
  · exact h
  · split
    · exact h.cancelEntry k _
    · exact h

theorem slotCommand (h : s.queueSound) (k : SlotNo) (w : Word) : (s.slotCommand k w).queueSound :=
  .either (h.goSlot k) (.either (h.releaseSlot k) (.either (h.cancelSlot k) h))

theorem storeAccess (h : s.queueSound) (a : BitVec 18) (size : AccessSize) (data : Word) :
    (s.storeAccess a size data).queueSound := by
  unfold State.storeAccess
  split
  · exact h
  · split
    · exact h
    · rename_i m hm
      refine h.placeStore ?_ _
      by_contra hl
      simp [State.translateAccess, hl] at hm

theorem loadAccess (h : s.queueSound) (a : BitVec 18) (size : AccessSize) : (s.loadAccess a size).queueSound := by
  have hold (x : HeldAccess) : (s.holdHost x).queueSound := h
  unfold State.loadAccess
  split
  · exact h
  · split
    · exact h
    · exact (hold _).presentLoad

theorem readFence (h : s.queueSound) : s.readFence.queueSound := .either h.completeFence h

theorem writeSlotRegister (h : s.queueSound) (k : SlotNo) (offset : Nat) (w : Word) :
    (s.writeSlotRegister k offset w).queueSound := by
  refine .either (h.slotCommand k w) ?_
  split
  · exact h.writeSlot k _ w
  · exact h

theorem writeControl (h : s.queueSound) (w : Word) : (s.writeControl w).queueSound := by
  have he (b : Bool) : (s.setEnable b).queueSound := h
  exact .either (softReset s true) (.either ((he _).joinOrLeave _ _ _) (.either (he _).leaveLink h))

theorem writeRegister (h : s.queueSound) (offset : BitVec 12) (w : Word) : (s.writeRegister offset w).queueSound := by
  unfold State.writeRegister
  exact .either (h.writeControl w) (.either (h.setLimits w) (.either (h.setMapBase w) (.either (h.clearLinkCause w)
    (.either h (.either h (.either h (.either (h.writeMaint _ w) (.either (h.writeMaint _ w) (.either (h.writeMaint _ w)
    (.either (h.maintCommand w) (.either h (.either (h.writeSlotRegister _ _ w) h))))))))))))

end State.queueSound

/-! ## Commands and steps -/

/-- What a command answers has a property. -/
def Answers (P : State → Prop) (r : Result) : Prop := ∀ t, r = .next t → P t

theorem Answers.next {P : State → Prop} {t : State} (h : P t) : Answers P (.next t) := fun _ e => by
  cases e
  exact h

section Commands

variable {s : State} {f : State → State}

theorem Answers.putBack {r : Result} (h : Answers State.queueSound r) (rest : List Instr) :
    Answers State.queueSound (Machine.putBack rest r) := by
  cases r with
  | next t => exact .next (t := t.withWaiting _) (h t rfl)
  | fault _ => exact h
  | refused _ => exact h

theorem running_queue (h : s.queueSound) (hf : (f s).queueSound) : Answers State.queueSound (running s f) := by
  unfold running
  split
  · exact .next h
  · exact .next hf

theorem hostAccess_queue {c : Instr} (h : s.queueSound) (hf : (f s).queueSound) :
    Answers State.queueSound (hostAccess c s f) := by
  unfold hostAccess
  split
  · exact .next (t := s.waitOnBus c) h
  · exact .next hf

theorem hostWrite_queue {c : Instr} (h : s.queueSound) (hf : ∀ {u : State}, u.queueSound → (f u).queueSound) :
    Answers State.queueSound (hostWrite c s f) :=
  hostAccess_queue (f := fun u => f (u.answerHost .done)) h (hf (u := s.answerHost .done) h)

theorem State.onAir_phase {tx : Transmission} (h : s.onAir = some tx) : s.link.phase = .own tx := by
  unfold State.onAir at h
  split at h
  · cases h
    assumption
  · cases h

theorem execArbitrationLost_queue (h : s.queueSound) : Answers State.queueSound (execArbitrationLost s) := by
  refine running_queue h ?_
  split
  · exact h.handBack (State.onAir_phase ‹_›)
  · exact h

theorem execReadbackAbort_queue (h : s.queueSound) : Answers State.queueSound (execReadbackAbort s) := by
  refine running_queue h ?_
  split
  · exact h.abortFrame (State.onAir_phase ‹_›)
  · exact h

theorem execRequestAcknowledge_queue (h : s.queueSound) (bits : BitVec 3) :
    Answers State.queueSound (execRequestAcknowledge bits s) := by
  refine running_queue h ?_
  split
  · rename_i t f hf
    exact h.requestAnswered ⟨f, State.onAir_phase hf⟩ _ _
  · exact h

theorem execReplyAcknowledge_queue (h : s.queueSound) (bits : BitVec 3) :
    Answers State.queueSound (execReplyAcknowledge bits s) := by
  refine running_queue h ?_
  split
  · exact h.replyAnswered _ _ _
  · exact h

theorem execAnnounceTransmitted_queue (h : s.queueSound) : Answers State.queueSound (execAnnounceTransmitted s) := by
  refine running_queue h ?_
  split
  · exact h.announced
  · exact h

theorem execLeaveTransmitted_queue (h : s.queueSound) : Answers State.queueSound (execLeaveTransmitted s) := by
  refine running_queue h ?_
  split
  · exact h.left (State.onAir_phase ‹_›)
  · exact h

theorem execLockedReadPhaseEnd_queue (h : s.queueSound) (t : Transfer) :
    Answers State.queueSound (execLockedReadPhaseEnd t s) := by
  refine running_queue h ?_
  split
  · split
    · exact h.endReadPhase _ _ t
    · exact h
  · exact h

theorem execProbe_queue (h : s.queueSound) (i : Station) (t : Tag) (b : Bool) :
    Answers State.queueSound (execProbe i t b s) :=
  running_queue h <| h.heard i fun hu _ => .either ((hu.hear i).withPhase fun _ hx => hx) (hu.hear i)

theorem execAnnounce_queue (h : s.queueSound) (i : Station) : Answers State.queueSound (execAnnounce i s) :=
  running_queue h <| h.heard i fun {u} hu _ => State.queueSound.checkDrain (s := (u.hear i).purge i) (hu.hear i)

theorem execLeaveFrame_queue (h : s.queueSound) (i : Station) : Answers State.queueSound (execLeaveFrame i s) :=
  running_queue h <| h.heard i fun {u} hu _ => State.queueSound.checkDrain (s := (u.hearLeave i).purge i) (hu.hearLeave i)

theorem execRegisterWrite_queue (h : s.queueSound) (offset : BitVec 12) (w : Word) :
    Answers State.queueSound (execRegisterWrite offset w s) :=
  hostAccess_queue h (.either (State.queueSound.writeRegister (s := s.answerHost .done) h offset w) h)

theorem execResetAsserted_queue (h : s.queueSound) (landed : List Bool) :
    Answers State.queueSound (execResetAsserted landed s) := by
  unfold execResetAsserted
  split
  · exact .next h
  · exact .next (h.assertReset landed)

theorem execResetReleased_queue (h : s.queueSound) (p : ResetPulse) : Answers State.queueSound (execResetReleased p s) := by
  unfold execResetReleased
  split
  · cases p with
    | full => exact .next (State.queueSound.powerOn s)
    | short taken => exact .next (.either (State.queueSound.powerOn s) h.notReset)
  · exact .next h

theorem execHostPortReady_queue (h : s.queueSound) : Answers State.queueSound (execHostPortReady s) :=
  running_queue (f := fun u => { u with host := { u.host with startup := none } }) h h

end Commands

/-- Every command keeps the queued order sound. -/
theorem exec_queue (c : Instr) {s : State} (h : s.queueSound) : Answers State.queueSound (exec c s) := by
  cases c with
  | join stn rate leaveToo enable =>
    exact hostWrite_queue h fun {u} hu => State.queueSound.joinOrLeave (s := u.setEnable enable) hu stn rate leaveToo
  | leave enable => exact hostWrite_queue h fun {u} hu => State.queueSound.leaveLink (s := u.setEnable enable) hu
  | softReset b => exact hostWrite_queue h fun _ => State.queueSound.softReset _ b
  | inboundEnableWrite enable => exact hostWrite_queue h fun hu => hu
  | limitsWrite w => exact hostWrite_queue h fun hu => hu.setLimits w
  | mapBaseWrite w => exact hostWrite_queue h fun hu => hu.setMapBase w
  | linkCauseClear w => exact hostWrite_queue h fun hu => hu.clearLinkCause w
  | interruptMaskWrite w => exact hostWrite_queue h fun hu => hu
  | fenceRead => exact hostAccess_queue h h.readFence
  | fenceReadComplete => exact running_queue h (.either h.completeFence h)
  | signalPop w => exact hostWrite_queue h fun hu => hu
  | eventPop w => exact hostWrite_queue h fun hu => hu
  | maintRegisterWrite r w => exact hostWrite_queue h fun hu => hu.writeMaint r w
  | update => exact hostWrite_queue h fun hu => hu.takeUpdate
  | read => exact hostWrite_queue h fun hu => hu.takeRead
  | invalidateAll => exact hostWrite_queue h fun hu => hu.takeInvalidate
  | maintCommandUndefined w => exact hostWrite_queue h fun hu => hu
  | slotParameterWrite k r w => exact hostWrite_queue h fun hu => hu.writeSlot k r w
  | go k => exact hostWrite_queue h fun hu => hu.goSlot k
  | release k => exact hostWrite_queue h fun hu => hu.releaseSlot k
  | cancel k => exact hostWrite_queue h fun hu => hu.cancelSlot k
  | slotCommandUndefined k w => exact hostWrite_queue h fun hu => hu
  | registerWrite offset w => exact execRegisterWrite_queue h offset w
  | registerAccessInvalid write size offset => exact hostAccess_queue h h
  | apertureStore a size data => exact hostAccess_queue h (h.storeAccess a size data)
  | apertureLoad a size => exact hostAccess_queue h (h.loadAccess a size)
  | heldStorePlaced => exact running_queue h h.endHeldStore
  | postedEntryPresented p => exact running_queue h (h.presentPlace p)
  | loadPresented => exact running_queue h h.presentLoad
  | slotPresented k => exact running_queue h (h.presentSlot k)
  | drainComplete => exact running_queue h h.checkDrain
  | transmitOpportunity => exact running_queue h h.transmit
  | arbitrationLost => exact execArbitrationLost_queue h
  | readbackAbort => exact execReadbackAbort_queue h
  | requestAcknowledge bits => exact execRequestAcknowledge_queue h bits
  | replyAcknowledge bits => exact execReplyAcknowledge_queue h bits
  | announceTransmitted => exact execAnnounceTransmitted_queue h
  | leaveTransmitted => exact execLeaveTransmitted_queue h
  | backoffElapsed t => exact running_queue h (h.endBackoff t)
  | loopbackBackoffElapsed t => exact running_queue h (h.endLoopbackBackoff t)
  | replyBackoffElapsed i t => exact running_queue h (h.endReplyBackoff i t)
  | responseTimeout t => exact running_queue h (h.timeOut t)
  | roundGapElapsed => exact running_queue h h.endRound
  | joinListenComplete => exact running_queue h h.endListen
  | mediumSyncRun => exact running_queue h h.endSync
  | strayDominantBit => exact running_queue h h.strayBit
  | badFrame n => exact running_queue h (h.dropFrame n)
  | malformedFrame frame => exact running_queue h (h.heard _ fun hu _ => hu.hear _)
  | frameHeard i => exact running_queue h (h.heard i fun hu _ => hu.hear i)
  | ownSourceFrameHeard => exact running_queue h (h.heard _ fun hu _ => hu)
  | readReq i t b p o n =>
    exact running_queue h (h.heard i fun hu _ => .either (hu.decideOffer i t b _) (hu.hear i))
  | writeReq i t b p o ws =>
    exact running_queue h (h.heard i fun hu _ => .either (hu.decideOffer i t b _) (hu.hear i))
  | atomicReq i t b p o op => exact running_queue h (h.heard i fun hu _ => hu.decideOffer i t b _)
  | signal i t b v => exact running_queue h (h.heard i fun hu _ => hu.decideOffer i t b _)
  | probe i t b => exact execProbe_queue h i t b
  | response i t b st data =>
    exact running_queue h (h.heard i fun hu hp => .either (hu.answer hp i t b st data) (hu.hear i))
  | announce i => exact execAnnounce_queue h i
  | leaveFrame i => exact execLeaveFrame_queue h i
  | executionStart => exact running_queue h h.startExecution
  | mapFillEnd ts => exact running_queue h (h.endCycle _ ts fun _ r hu => hu.fillEnded r)
  | dataCycleEnd ts => exact running_queue h (h.endCycle _ ts fun _ r hu => hu.dataEnded r)
  | lockedReadPhaseEnd t => exact execLockedReadPhaseEnd_queue h t
  | lockedWritePhaseEnd t => exact running_queue h (h.endCycle _ [t] fun _ r hu => hu.dataEnded r)
  | mapWriteEnd ts => exact running_queue h (h.endCycle _ ts fun c r hu => hu.updateEnded c r)
  | maintMapReadEnd ts => exact running_queue h (h.endCycle _ ts fun c r hu => hu.maintReadEnded c r)
  | discardedCycleEnd ts => exact running_queue h (h.endCycle _ ts fun _ _ hu => hu)
  | resetAsserted landed => exact execResetAsserted_queue h landed
  | resetReleased p => exact execResetReleased_queue h p
  | hostPortReady => exact execHostPortReady_queue h
  | startMarker => exact running_queue h h.startSeen
  | acknowledgeSlotCompleted => exact running_queue h h.endSlotAfterReset

/-- What the part does of itself keeps the queued order sound where the commands it runs do. -/
theorem idleStep_queue {s : State} (h : s.queueSound) : Answers State.queueSound (s.idleStep exec) := by
  unfold State.idleStep
  split
  · exact exec_queue _ h
  split
  · exact (exec_queue _ (s := s.withWaiting []) h).putBack _
  · exact .next h.tick

/-- Settles O59: a command from the queue, a happening that is due, a waiting access and one bit time each keep the queued
order in agreement with the Transaction Table. -/
theorem everyStepKeepsTheQueuedOrderSound : Obligations.EveryStepKeepsTheQueuedOrderSound := by
  intro s t h e
  have hq (rest : List Instr) : ({ s with pending := rest } : State).queueSound := h
  unfold step at e
  split at e
  · exact exec_queue _ (hq _) t e
  · exact idleStep_queue h t e

end Sys2Proof.Machine

/-! SUPPORT. Attempts and ends of transactions (R64 to R69, R73 to R75, R117, R143 to R146): how an attempt goes on by its code,
what a NO-ACK end counts, which RESPONSE matches, and what CANCEL does. -/

namespace Sys2Proof.Machine

/-! ## Attempts (R64 to R67, R75) -/

section Attempts

variable {s : State} {g : Tag} {e : TransEntry}

/-- The entry after one more attempt that read a code. -/
def TransEntry.attempted (e : TransEntry) (code : AckCode) (st : TransState) : TransEntry :=
  { e with attempts := e.attempts + 1, lastCode := some code, state := st }

theorem State.afterAttempt_accept_waits (hg : s.outbound.table[g] = some e) (hb : e.body.awaitsResponse = true) :
    s.afterAttempt g .accept = s.setEntry g (e.attempted .accept (.waiting s.timerNs)) := by
  have he : s.entryAt g = some e := hg
  simp only [State.afterAttempt, he, hb, if_true]
  rfl

theorem State.afterAttempt_refuse (hg : s.outbound.table[g] = some e) :
    s.afterAttempt g .refuse = s.endEntry g .refused [] := by
  have he : s.entryAt g = some e := hg
  simp only [State.afterAttempt, he]

theorem State.afterAttempt_stale (hg : s.outbound.table[g] = some e) :
    s.afterAttempt g .stale = s.endEntry g .answerLost [] := by
  have he : s.entryAt g = some e := hg
  simp only [State.afterAttempt, he]

/-- Below the attempt limit an entry that is not marked backs off (R65, R66). -/
theorem State.afterAttempt_retries (hg : s.outbound.table[g] = some e) {code : AckCode}
    (hcode : code = .busy ∨ code = .nothing) (hc : e.cancel = false)
    (hn : e.attempts + 1 < s.membership.config.attemptLimit.toNat) :
    s.afterAttempt g code = s.setEntry g (e.attempted code (.backoff (s.backoffBt (e.attempts + 1)))) := by
  have he : s.entryAt g = some e := hg
  obtain rfl | rfl := hcode <;> simp [State.afterAttempt, he, hc, hn, TransEntry.attempted]

/-- No attempt follows for a marked entry, or at the attempt limit (R65, R66, R75). -/
def State.noMore (s : State) (e : TransEntry) : Prop :=
  e.cancel = true ∨ s.membership.config.attemptLimit.toNat ≤ e.attempts + 1

theorem State.noMore.eq_false (h : s.noMore e) :
    (!e.cancel && decide (e.attempts + 1 < s.membership.config.attemptLimit.toNat)) = false := by
  obtain h | h := h <;> simp [h]

theorem State.afterAttempt_busy_ends (hg : s.outbound.table[g] = some e) (hm : s.noMore e) :
    s.afterAttempt g .busy = s.endEntry g .targetBusy [] := by
  have he : s.entryAt g = some e := hg
  simp only [State.afterAttempt, he, hm.eq_false, Bool.false_eq_true, if_false]

theorem State.afterAttempt_nothing_ends (hg : s.outbound.table[g] = some e) (hm : s.noMore e) :
    s.afterAttempt g .nothing = (s.endEntry g .noAck []).reportNoAck (e.attempted .nothing e.state) := by
  have he : s.entryAt g = some e := hg
  simp only [State.afterAttempt, he, hm.eq_false, Bool.false_eq_true, if_false]
  rfl

/-- A NO-ACK end of a medium entry that is not marked is counted against its target (R66, R117). -/
theorem State.reportNoAck_counts (hc : e.cancel = false) (ht : e.target ≠ s.membership.own) :
    s.reportNoAck e = s.countNoAck e.target := if_neg (by simp [hc, ht])

theorem State.reportNoAck_marked (hc : e.cancel = true) : s.reportNoAck e = s := if_pos (.inl hc)

theorem State.endEntry_own (s : State) (g : Tag) (st : Status) (data : List Word) :
    (s.endEntry g st data).membership.own = s.membership.own := by
  obtain ⟨_, _, _, _, _, e, -⟩ := s.endEntry_touches g st data
  rw [e]

end Attempts

/-! ## The count of a NO-ACK end (R114, R117) -/

section CountNoAck

variable {s : State} {i : Station}

theorem State.countNoAck_raises (hr : s.membership.roster[i].state = .unheard ∨ s.membership.roster[i].state = .present)
    (hn : s.membership.roster[i].count + 1 < s.membership.config.silentThreshold.toNat) :
    s.countNoAck i =
      s.setRoster i { state := s.membership.roster[i].state, count := s.membership.roster[i].count + 1 } :=
  (if_pos hr).trans (if_pos hn)

theorem State.countNoAck_silences (hr : s.membership.roster[i].state = .unheard ∨ s.membership.roster[i].state = .present)
    (hn : s.membership.config.silentThreshold.toNat ≤ s.membership.roster[i].count + 1) :
    s.countNoAck i =
      (s.setRoster i { state := .silent, count := s.membership.config.silentThreshold.toNat }).addEvent
        (.ofStation .stationSilent i) := (if_pos hr).trans (if_neg (Nat.not_lt.mpr hn))

theorem State.countNoAck_leaves (hr : s.membership.roster[i].state = .silent ∨ s.membership.roster[i].state = .departed) :
    s.countNoAck i = s := if_neg (by obtain h | h := hr <;> rw [h] <;> decide)

end CountNoAck

/-- Settles O33: the attempt by its code, and the count of a NO-ACK end by the Roster record. -/
theorem attemptsGoOnByTheirCode : Obligations.AttemptsGoOnByTheirCode := by
  refine ⟨fun g e s hg => ?_, fun i s => ?_⟩
  · intro limit next
    have nothing (hm : s.noMore e) := State.afterAttempt_nothing_ends hg hm
    refine ⟨State.afterAttempt_accept_waits hg, State.afterAttempt_accept_ends hg, State.afterAttempt_refuse hg,
      State.afterAttempt_stale hg, fun hc hn => ⟨State.afterAttempt_retries hg (.inl rfl) hc hn,
        State.afterAttempt_retries hg (.inr rfl) hc hn⟩, State.afterAttempt_busy_ends hg, fun hc hn ht => ?_, fun hc => ?_⟩
    · rw [nothing (.inr hn)]
      exact State.reportNoAck_counts (e := e.attempted .nothing e.state) hc (by rw [State.endEntry_own]; exact ht)
    · rw [nothing (.inl hc)]
      exact State.reportNoAck_marked (e := e.attempted .nothing e.state) hc
  · exact ⟨State.countNoAck_raises, State.countNoAck_silences, State.countNoAck_leaves⟩

/-! ## The slot of the own request (R64, R89, R93) -/

theorem exec_requestAcknowledge {s : State} (hl : s.pins.resetLow = false) {g : Tag} {f : RawFrame}
    (hp : s.link.phase = .own { owner := .transaction g, frame := f }) (bits : BitVec 3) :
    exec (.requestAcknowledge bits) s = .next (s.requestAnswered g f.dest (slotCode bits)) := by
  have hrun : exec (.requestAcknowledge bits) s = execRequestAcknowledge bits s := rfl
  rw [hrun, execRequestAcknowledge, running_high _ hl]
  simp only [State.onAir_own hp]

theorem State.afterSlot_true (s : State) :
    s.afterSlot true =
      { s with link := { s.link with phase := .ending 1, idleLength := 0, spent := true, receiveBuffer := .free } } := by
  simp only [State.afterSlot, Bool.or_true]

/-- Settles O34, by the five readings of the slot. -/
theorem requestAcknowledgeReportsTheCodeRead : Obligations.RequestAcknowledgeReportsTheCodeRead := by
  intro bits g f s hl hp h
  rw [exec_requestAcknowledge hl hp, State.requestAnswered, State.afterSlot_true]
  unfold slotCode
  split_ifs <;> rfl

/-! ## Response matching (R68, R69, R72) -/

theorem TransBody.responseLength_eq_iff (b : TransBody) (st : WireStatus) (n : Nat) :
    b.responseLength st = some n ↔
      (∃ p w c, b = .read p w c ∧ n = if st = .ok then c else 0) ∨ (∃ p w c, b = .write p w c ∧ n = 0) ∨
        ∃ p w op, b = .atomic p w op ∧ n = if st = .ok then 1 else 0 := by
  cases b with
  | read p w c => by_cases h : st = .ok <;> simp [TransBody.responseLength, h, eq_comm]
  | write p w c => simp [TransBody.responseLength, eq_comm]
  | atomic p w op => by_cases h : st = .ok <;> simp [TransBody.responseLength, h, eq_comm]
  | signal v => simp [TransBody.responseLength]
  | probe => simp [TransBody.responseLength]

theorem TransEntry.fits_iff (e : TransEntry) (i : Station) (b : Bool) (st : WireStatus) (data : List Word) :
    e.fits i b st data = true ↔ e.issue = b ∧ e.target = i ∧ e.body.responseLength st = some data.length := by
  simp only [TransEntry.fits, Bool.and_eq_true, beq_iff_eq, and_assoc]

theorem matchResponse_fits {s : State} {g : Tag} {e : TransEntry} (hg : s.outbound.table[g] = some e) {i : Station}
    {b : Bool} {st : WireStatus} {data : List Word} (hf : e.fits i b st data = true) :
    matchResponse i g b st data s = (.accept, s.endEntry g st.toStatus data) := by
  have he : s.entryAt g = some e := hg
  simp only [matchResponse, he, hf, if_true]

theorem matchResponse_late {s : State} {i : Station} {g : Tag} {b : Bool} {st : WireStatus} {data : List Word}
    (hf : ∀ e, s.outbound.table[g] = some e → e.fits i b st data = false) :
    matchResponse i g b st data s = (.stale, s.addEvent (.tagged .lateResponse i g)) := by
  unfold matchResponse
  split
  · rename_i e he
    rw [hf e he]
    rfl
  · rfl

/-- Settles O46, by whether the entry of the tag fits. -/
theorem responsesMatchByTagIssueTargetKindAndLength : Obligations.ResponsesMatchByTagIssueTargetKindAndLength := by
  intro i g b st data s fits
  have hfits (e : TransEntry) : e.fits i b st data = true ↔ fits e := by
    rw [e.fits_iff, e.body.responseLength_eq_iff]
  exact ⟨fun e hg hf => matchResponse_fits hg ((hfits e).mpr hf),
    fun hn => matchResponse_late fun e hg => Bool.eq_false_iff.mpr fun hf => hn e hg ((hfits e).mp hf)⟩

/-! ## The end of an entry (R73) and CANCEL (R145, R146) -/

theorem State.endEntry_eq {s : State} {g : Tag} {e : TransEntry} (hg : s.outbound.table[g] = some e) (st : Status)
    (data : List Word) :
    s.endEntry g st data = (s.freeEntry g).deliver e.origin (if e.cancel then .cancelled else st) data := by
  have he : s.entryAt g = some e := hg
  simp only [State.endEntry, he]

section Cancel

variable {s : State} {k : SlotNo} {g : Tag} {e : TransEntry}

theorem State.cancelSlot_fence {noted : List Place} (hs : s.slots[k].state = .fence noted) :
    s.cancelSlot k = s.setSlot k (s.slots[k].finish .cancelled []) := by
  simp only [State.cancelSlot, hs]

/-- CANCEL of a slot in the table reaches its one entry (R146). -/
theorem State.cancelSlot_entry (hs : s.slots[k].state = .entry) (hg : s.outbound.table[g] = some e) (ho : e.origin = .slot k)
    (hu : ∀ h f, s.outbound.table[h] = some f → f.origin = .slot k → h = g) : s.cancelSlot k = s.cancelEntry k g := by
  simp only [State.cancelSlot, hs, State.slotTag_eq hg ho hu]

theorem State.cancelEntry_ends (hg : s.outbound.table[g] = some e) (hs : e.state = .queued ∨ ∃ n, e.state = .backoff n) :
    s.cancelEntry k g = (s.endEntry g .cancelled []).followThrough := by
  have he : s.entryAt g = some e := hg
  obtain hs | ⟨n, hs⟩ := hs <;> simp only [State.cancelEntry, he, hs]

theorem State.cancelEntry_marks (hg : s.outbound.table[g] = some e) (hs : e.state = .onAir ∨ ∃ n, e.state = .waiting n) :
    s.cancelEntry k g =
      (s.setEntry g { e with cancel := true }).setSlot k { s.slots[k] with cancelPending := true } := by
  have he : s.entryAt g = some e := hg
  obtain hs | ⟨n, hs⟩ := hs <;> simp only [State.cancelEntry, he, hs]

end Cancel

/-- Settles O24: CANCEL by the phase of the slot and the state of its entry. -/
theorem cancelEndsOrMarks : Obligations.CancelEndsOrMarks := by
  intro k s hb cancelled
  have hfinish : s.slots[k].finish .cancelled [] = cancelled := Slot.finish_failed (by decide) _ _
  refine ⟨fun noted hs => hostWrite_eq hb ?_, fun g e hs hg ho hu => ?_⟩
  · rw [State.cancelSlot_fence (s := s.answerHost .done) hs, ← hfinish]
    rfl
  · have hentry : (s.answerHost .done).cancelSlot k = (s.answerHost .done).cancelEntry k g :=
      State.cancelSlot_entry (s := s.answerHost .done) hs hg ho hu
    refine ⟨fun hst => hostWrite_eq hb ?_, fun hst => hostWrite_eq hb ?_⟩
    · rw [hentry, State.cancelEntry_ends (s := s.answerHost .done) hg hst, State.endEntry_eq (s := s.answerHost .done) hg,
        ho, ite_self, ← hfinish]
      rfl
    · rw [hentry, State.cancelEntry_marks (s := s.answerHost .done) hg hst]
      rfl

end Sys2Proof.Machine

/-! SUPPORT. Presentations (R57 to R61, R71) and what the Aperture Unit does with them: the eligible posted entry (R125), stores
that merge, are appended or held (R122 to R124), and held loads (R128, R129). -/

namespace Sys2Proof.Machine

/-! ## A presentation by its checks (R57 to R61, R71) -/

section Present

variable {s : State} {o : Origin} {target : Station} {body : TransBody}

/-- The link state lets an origin present: ONLINE, and DRAINING for a posted entry (R60). -/
def State.admits (o : Origin) (s : State) : Prop :=
  s.membership.link = .online ∨ s.membership.link = .draining ∧ ∃ p, o = .posted p

/-- The status that a target's Roster state ends a presentation with (R59). -/
def RosterState.refusal : RosterState → Option Status
  | .silent => some .stationSilent
  | .departed => some .stationDeparted
  | _ => none

theorem RosterState.refusal_none {r : RosterState} (h1 : r ≠ .silent) (h2 : r ≠ .departed) : r.refusal = none := by
  cases r <;> simp_all [RosterState.refusal]

theorem State.admits.takesPart (h : s.admits o) : s.takesPart = true := by
  obtain h | ⟨h, -⟩ := h <;> simp [State.takesPart, h]

theorem State.admits.presentationCheck (h : s.admits o) (hb : body ≠ .probe) :
    s.presentationCheck o target body = s.membership.roster[target].state.refusal := by
  obtain hl | ⟨hl, p, rfl⟩ := h
  · simp only [State.presentationCheck, hl, true_or, if_true, hb, if_false]
    cases s.membership.roster[target].state <;> rfl
  · simp only [State.presentationCheck, hl, and_self, or_true, if_true, hb, if_false]
    cases s.membership.roster[target].state <;> rfl

/-- A SILENT or DEPARTED target ends the presentation (R59). -/
theorem State.present_refused (h : s.admits o) (hb : body ≠ .probe) {st : Status}
    (hr : s.membership.roster[target].state.refusal = some st) : s.present o target body = s.deliver o st [] := by
  simp only [State.present, h.presentationCheck hb, hr]

/-- A presentation that passes its checks takes the lowest free tag (R57, R61). -/
theorem State.present_passes (h : s.admits o) (hb : body ≠ .probe)
    (hr : s.membership.roster[target].state.refusal = none) {g : Tag} (hg : s.lowestFree g) :
    s.present o target body =
      if target = s.membership.own then
        ((s.take o).withNewEntry g o target body .onAir s.outbound.queued).presentLoopback g
      else (s.take o).withNewEntry g o target body .queued (s.outbound.queued ++ [g]) := by
  obtain ⟨hob, -, -⟩ := s.take_frame o
  simp only [State.present, h.presentationCheck hb, hr, State.allocate, State.freeTag_eq hg.1 hg.2, decide_eq_true_eq,
    State.withNewEntry, hob]
  split_ifs <;> rfl

/-- A transaction for another station is QUEUED last (R62). -/
theorem State.present_queues (h : s.admits o) (hb : body ≠ .probe)
    (hr : s.membership.roster[target].state.refusal = none) {g : Tag} (hg : s.lowestFree g) (ht : target ≠ s.membership.own)
    {taken : State} (hk : s.take o = taken) :
    s.present o target body = taken.withNewEntry g o target body .queued (s.outbound.queued ++ [g]) := by
  rw [State.present_passes h hb hr hg, if_neg ht, hk]

/-- A transaction for the own station is ON-AIR at once, and the answer to what it carries is one attempt (R71). -/
theorem State.present_answered (h : s.admits o) (hb : body ≠ .probe)
    (hr : s.membership.roster[target].state.refusal = none) {g : Tag} (hg : s.lowestFree g) (ht : target = s.membership.own)
    {taken : State} (hk : s.take o = taken) {offer : Offer}
    (ho : ∀ u : State, u.aperture = taken.aperture → u.slots = taken.slots → ∀ e : TransEntry, e.body = body →
      e.origin = o → u.loopbackOffer e = some offer) :
    s.present o target body =
      (acceptDecision target g (!s.outbound.issueBits[g]) offer
        (taken.withNewEntry g o target body .onAir s.outbound.queued)).2.afterAttempt g
        (acceptDecision target g (!s.outbound.issueBits[g]) offer
          (taken.withNewEntry g o target body .onAir s.outbound.queued)).1 := by
  obtain ⟨hob, -, hmem⟩ := s.take_frame o
  rw [State.present_passes h hb hr hg, if_pos ht]
  subst hk
  have hentry := State.withNewEntry_entry g o target body .onAir s.outbound.queued (s.take o)
  have hself := State.presenting_onAir hentry rfl
  have hp : ((s.take o).withNewEntry g o target body .onAir s.outbound.queued).takesPart = true := by
    have hp : (s.take o).takesPart = true := by rw [State.takesPart, hmem]; exact h.takesPart
    exact hp
  have hown : ((s.take o).withNewEntry g o target body .onAir s.outbound.queued).membership.own = target := by
    have hown : (s.take o).membership.own = target := by rw [hmem, ht]
    exact hown
  rw [State.presentLoopback_offer hentry hp (by rw [hself]; exact ho _ rfl rfl _ rfl rfl), hself, hown, hob]

end Present

/-! ## Held loads (R128, R129) -/

section Loads

variable {s : State} {l : HeldLoad}

theorem State.presentLoad_due (hh : s.host.held = some (.load l)) (hn : l.noted = []) (hp : l.presented = false) :
    s.presentLoad = s.present .apertureRead l.target (.read l.page l.offset 1) := by
  simp only [State.presentLoad, hh, hn, hp, and_self, if_true]

theorem State.presentLoad_waits (hh : s.host.held = some (.load l)) (hn : l.noted ≠ []) : s.presentLoad = s := by
  simp only [State.presentLoad, hh, hn, false_and, if_false]

/-- A load is presented in ONLINE alone (R60). -/
theorem State.presentationCheck_load_down (hl : s.membership.link ≠ .online) (target : Station) (body : TransBody) :
    s.presentationCheck .apertureRead target body = some .linkDown := by
  simp [State.presentationCheck, hl]

theorem State.take_load (hh : s.host.held = some (.load l)) :
    s.take .apertureRead = s.holdHost (.load { l with presented := true }) := by
  simp only [State.take, hh]

/-! ### Translated accesses (R119, R121) -/

theorem State.resetHigh_of_free (h : s.hostBlocked = false) : s.pins.resetLow = false := by
  simp only [State.hostBlocked, Bool.or_eq_false_iff] at h
  exact h.1.1.1

theorem State.held_of_free (h : s.hostBlocked = false) : s.host.held = none := by
  simp only [State.hostBlocked, Bool.or_eq_false_iff, Option.isSome_eq_false_iff, Option.isNone_iff_eq_none] at h
  exact h.1.2

theorem State.translateAccess_ok {a : BitVec 18} {m : ApertureEntry} (hl : s.membership.link = .online)
    (hm : s.aperture.map[aperturePage a] = m) (hv : m.valid = true) : s.translateAccess a = .ok m := by
  simp only [State.translateAccess, hl, hm, hv, ne_eq, not_true, if_false, if_true]

theorem exec_apertureLoad {a : BitVec 18} {size : AccessSize} {lanes : Lanes} {m : ApertureEntry} (hb : s.hostBlocked = false)
    (hl : s.membership.link = .online) (ha : accessLanes size (apertureByte a) = some lanes)
    (hm : s.aperture.map[aperturePage a] = m) (hv : m.valid = true) :
    exec (.apertureLoad a size) s =
      .next (s.holdHost (.load { target := m.target, page := m.page, offset := apertureWord a, lanes := lanes, address := a
                                 noted := s.notedFor m.target, presented := false })).presentLoad := by
  refine (hostAccess_free _ _ hb).trans ?_
  simp only [State.loadAccess, ha, State.translateAccess_ok hl hm hv]

theorem exec_apertureStore {a : BitVec 18} {size : AccessSize} {v : Word} {lanes : Lanes} {m : ApertureEntry}
    (hb : s.hostBlocked = false) (hl : s.membership.link = .online) (ha : accessLanes size (apertureByte a) = some lanes)
    (hm : s.aperture.map[aperturePage a] = m) (hv : m.valid = true) :
    exec (.apertureStore a size v) s =
      .next (s.placeStore { target := m.target, page := m.page, offset := apertureWord a, word := maskedWord lanes v
                            address := a }) := by
  refine (hostAccess_free _ _ hb).trans ?_
  simp only [State.storeAccess, ha, State.translateAccess_ok hl hm hv]

theorem State.notedFor_eq_nil (s : State) (target : Station) :
    s.notedFor target = [] ↔ ∀ e ∈ s.aperture.posted, e.target ≠ target := by
  simp [State.notedFor, List.filter_eq_nil_iff]

end Loads

/-- Settles O30: a translated load by its noted set, and a held load by the checks and the outcome of its presentation. -/
theorem loadsAreHeldAndPresented : Obligations.LoadsAreHeldAndPresented := by
  refine ⟨fun a size lanes m s hb hl ha hm hv => ?_, fun l s hr hh hn hp => ?_⟩
  · intro noted holding
    have hload : exec (.apertureLoad a size) s = .next holding.presentLoad := exec_apertureLoad hb hl ha hm hv
    have hnil : noted = [] ↔ ∀ e ∈ s.aperture.posted, e.target ≠ m.target := s.notedFor_eq_nil m.target
    refine ⟨fun ⟨e, he, ht⟩ => ?_, fun hn => ⟨hnil.mpr hn, ?_⟩⟩
    · rw [hload, State.presentLoad_waits (s := holding) rfl fun hn => hnil.mp hn e he ht]
    · exact hload.trans (running_high (s := holding) _ (State.resetHigh_of_free (s := s) hb)).symm
  · intro ended roster
    have hload : exec .loadPresented s = .next (s.present .apertureRead l.target (.read l.page l.offset 1)) :=
      running_eq hr (State.presentLoad_due hh hn hp)
    refine ⟨fun hl => ?_, fun hl hro => ?_, fun hl hro => ?_, fun hl h1 h2 g hg => ?_⟩
    · rw [hload, State.present, State.presentationCheck_load_down hl]
    · rw [hload, State.present_refused (.inl hl) (by nofun) (congrArg RosterState.refusal hro)]
    · rw [hload, State.present_refused (.inl hl) (by nofun) (congrArg RosterState.refusal hro)]
    · have hro := RosterState.refusal_none h1 h2
      intro body taken
      exact ⟨fun ht => hload.trans (congrArg _ (State.present_queues (.inl hl) (by nofun) hro hg ht (State.take_load hh))),
        fun ht => hload.trans (congrArg _ (State.present_answered (.inl hl) (by nofun) hro hg ht (State.take_load hh)
          fun u _ _ e hb _ => by simp only [State.loopbackOffer, hb]))⟩

/-! ## The eligible posted entry (R125) -/

section Eligible

variable {s : State} {pre post : List PostedEntry} {e : PostedEntry}

theorem State.eligible_of (hx : s.aperture.posted = pre ++ e :: post) (he : eligibleAt pre e post) : s.eligible e = true := by
  obtain ⟨hopen, hpre, hpost⟩ := he
  have hfind : (s.aperture.posted.find? fun f => f.target == e.target) = some e := by
    rw [hx]
    exact find?_at (by simp) fun f hf => by simp [hpre f hf]
  have hany : (s.aperture.posted.any fun f => f.target == e.target && f.taken) = false := by
    rw [hx]
    simp only [List.any_append, List.any_cons, hopen, Bool.and_false, Bool.false_or, Bool.or_eq_false_iff,
      List.any_eq_false, Bool.and_eq_true, beq_iff_eq, not_and, Bool.not_eq_true]
    exact ⟨fun f hf ht => absurd ht (hpre f hf), hpost⟩
  simp [State.eligible, hopen, hfind, hany]

theorem State.eligible_spec (h : s.eligible e = true) :
    ∃ pre post, s.aperture.posted = pre ++ e :: post ∧ eligibleAt pre e post := by
  simp only [State.eligible, Bool.and_eq_true, Bool.not_eq_true', beq_iff_eq] at h
  obtain ⟨⟨hopen, hfind⟩, hany⟩ := h
  obtain ⟨-, pre, post, hx, hpre⟩ := List.find?_eq_some_iff_append.mp hfind
  refine ⟨pre, post, hx, hopen, fun f hf => by simpa using hpre f hf, fun f hf ht => ?_⟩
  have := List.any_eq_false.mp hany f (by simp [hx, hf])
  simpa [ht] using this

/-- An entry whose name no other has stands at one place of the buffer. -/
theorem posted_place_unique {a b : List PostedEntry} (hx : pre ++ e :: post = a ++ e :: b)
    (hn : ∀ f ∈ pre ++ post, f.place ≠ e.place) : a = pre ∧ b = post := by
  have hpre : e ∉ pre := fun h => hn e (by simp [h]) rfl
  have hpost : e ∉ post := fun h => hn e (by simp [h]) rfl
  obtain ⟨c, rfl, hc⟩ | ⟨c, rfl, hc⟩ := List.append_eq_append_iff.mp hx
  · cases c with
    | nil => simpa using hc.symm
    | cons x c =>
      obtain ⟨rfl, hp⟩ := List.cons.inj hc
      exact (hpost (by simp [hp])).elim
  · cases c with
    | nil => simpa using hc
    | cons x c =>
      obtain ⟨rfl, -⟩ := List.cons.inj hc
      exact (hpre (by simp)).elim

theorem State.not_eligible (hx : s.aperture.posted = pre ++ e :: post) (hn : ∀ f ∈ pre ++ post, f.place ≠ e.place)
    (he : ¬eligibleAt pre e post) : s.eligible e = false := Bool.eq_false_iff.mpr fun h => by
  obtain ⟨a, b, hab, hel⟩ := State.eligible_spec h
  obtain ⟨rfl, rfl⟩ := posted_place_unique (hx.symm.trans hab) hn
  exact he hel

/-- The names of the buffer after a removal (R127). -/
theorem State.endPosted_places (s : State) (p : Place) (st : Status) : ∀ f ∈ (s.endPosted p st).aperture.posted, f.place ≠ p := by
  have hdrop : ∀ f ∈ (s.dropPosted p).aperture.posted, f.place ≠ p := fun f hf => by
    simpa using (List.mem_filter.mp hf).2
  unfold State.endPosted
  split
  · rename_i hnone
    exact fun f hf => by simpa using List.find?_eq_none.mp hnone f hf
  · split
    · exact hdrop
    · exact hdrop

theorem State.postedAt_isNone (s : State) (p : Place) :
    (s.postedAt p).isNone = true ↔ ∀ f ∈ s.aperture.posted, f.place ≠ p := by
  simp [State.postedAt]

/-- The presentation of an eligible entry that ends it has the follow-ons of its removal (R127). -/
theorem exec_postedEntryPresented_ends (hr : s.pins.resetLow = false) (hx : s.aperture.posted = pre ++ e :: post)
    (he : eligibleAt pre e post) (hn : ∀ f ∈ pre ++ post, f.place ≠ e.place) {t : State} (ht : s.presentPosted e = t)
    (hgone : ∀ f ∈ t.aperture.posted, f.place ≠ e.place) :
    exec (.postedEntryPresented e.place) s = .next t.followThrough := by
  refine running_eq hr ?_
  have hnone := (t.postedAt_isNone e.place).mpr hgone
  simp only [State.presentPlace, State.postedAt_eq hx fun f hf => hn f (by simp [hf]), State.eligible_of hx he, if_true, ht,
    hnone]

theorem exec_postedEntryPresented_stays (hr : s.pins.resetLow = false) (hx : s.aperture.posted = pre ++ e :: post)
    (he : eligibleAt pre e post) (hn : ∀ f ∈ pre ++ post, f.place ≠ e.place) {t : State} (ht : s.presentPosted e = t)
    (hstays : ∃ f ∈ t.aperture.posted, f.place = e.place) : exec (.postedEntryPresented e.place) s = .next t := by
  refine running_eq hr ?_
  have hsome : (t.postedAt e.place).isNone = false := Bool.eq_false_iff.mpr fun hnone => by
    obtain ⟨f, hf, hp⟩ := hstays
    exact (t.postedAt_isNone e.place).mp hnone f hf hp
  simp only [State.presentPlace, State.postedAt_eq hx fun f hf => hn f (by simp [hf]), State.eligible_of hx he, if_true, ht,
    hsome, Bool.false_eq_true, if_false]

/-- The buffer with an entry TAKEN (R61, R125). -/
theorem State.take_posted (hx : s.aperture.posted = pre ++ e :: post) (hn : ∀ f ∈ pre ++ post, f.place ≠ e.place) :
    s.take (.posted e.place) =
      { s with aperture := { s.aperture with posted := pre ++ { e with taken := true } :: post } } := by
  have hm := map_update_at (p := fun f : PostedEntry => f.place = e.place) (g := fun f => { f with taken := true }) rfl hn
  simp only [State.take, hx, hm]

/-- A posted entry carries its words (R58). -/
theorem State.loopbackOffer_posted {u : State} (hx : u.aperture.posted = pre ++ e :: post)
    (hn : ∀ f ∈ pre, f.place ≠ e.place) {x : TransEntry} {p : Page} {w : Offset} {n : Nat} (hb : x.body = .write p w n)
    (ho : x.origin = .posted e.place) : u.loopbackOffer x = some (.request p w (.write e.words)) := by
  simp only [State.loopbackOffer, hb, ho, State.writeItems, State.postedAt_eq hx hn, Option.map_some, Option.getD_some]

end Eligible

/-! ## The aperture status (R135, R175) -/

theorem State.readRegister_apertureStatus (s : State) : s.readRegister 0x024#12 = s.apertureStatus := rfl

theorem State.apertureStatus_counts {s : State} (h : s.aperture.posted.length ≤ 8) :
    (s.apertureStatus.extractLsb' 0 4).toNat = s.aperture.posted.length ∧
      (s.apertureStatus.extractLsb' 8 4).toNat = s.aperture.posted.countP PostedEntry.taken := by
  have hc : s.aperture.posted.countP PostedEntry.taken ≤ s.aperture.posted.length := List.countP_le_length
  rw [State.apertureStatus, extractLsb'_ofNat_toNat, extractLsb'_ofNat_toNat]
  omega

/-- Settles O29: an eligible entry by the checks and the outcome of its presentation, one that is not eligible, and the
status register. -/
theorem postedEntryPresentedBecomesTakenOrFails : Obligations.PostedEntryPresentedBecomesTakenOrFails := by
  refine ⟨fun pre post e s hr hl hx he hn => ?_, fun pre post e s hx he hn => ?_, fun s hl => ?_⟩
  · intro ended roster
    have ha : s.admits (.posted e.place) := hl.imp_right fun hd => ⟨hd, _, rfl⟩
    have refused {st : Status} (hro : roster.refusal = some st) : s.presentPosted e = ended st ∧
        exec (.postedEntryPresented e.place) s = .next (ended st).followThrough := by
      have hp : s.presentPosted e = ended st := State.present_refused ha (by nofun) hro
      exact ⟨hp, exec_postedEntryPresented_ends hr hx he hn hp (s.endPosted_places e.place st)⟩
    refine ⟨fun hro => refused (by rw [hro]; rfl), fun hro => refused (by rw [hro]; rfl), fun h1 h2 g hg => ?_⟩
    intro body taken
    have hro := RosterState.refusal_none h1 h2
    have hk : s.take (.posted e.place) = taken := State.take_posted hx hn
    refine ⟨fun ht => ?_, fun ht => ?_⟩
    · intro queued
      have hp : s.presentPosted e = queued := State.present_queues ha (by nofun) hro hg ht hk
      exact ⟨hp, exec_postedEntryPresented_stays hr hx he hn hp ⟨{ e with taken := true }, by simp [queued, taken,
        State.withNewEntry], rfl⟩⟩
    · intro h d t
      have hp : s.presentPosted e = t := State.present_answered ha (by nofun) hro hg ht hk fun u hu _ x hb ho =>
        State.loopbackOffer_posted (e := { e with taken := true }) (congrArg Aperture.posted hu)
          (fun f hf => hn f (by simp [hf])) hb ho
      exact ⟨hp, exec_postedEntryPresented_stays hr hx he hn hp, exec_postedEntryPresented_ends hr hx he hn hp⟩
  · have hskip : s.presentPlace e.place = s := by
      simp only [State.presentPlace, State.postedAt_eq hx fun f hf => hn f (by simp [hf]), State.not_eligible hx hn he,
        Bool.false_eq_true, if_false]
    show running s (State.presentPlace e.place) = .next s
    rw [running, hskip, ite_self]
  · rw [State.readRegister_apertureStatus, ← List.countP_eq_length_filter]
    exact State.apertureStatus_counts hl

end Sys2Proof.Machine

/-! SUPPORT. Stores (R122 to R125): the merge into the newest entry, the appended entry and its presentation, and the store that
is held. -/

namespace Sys2Proof.Machine

/-! ## The merge into the newest entry (R123) -/

section Merge

variable {e : PostedEntry} {st : HeldStore}

/-- A store may merge into an entry: OPEN, of its target and page, with the store at its last word or, where it has room, at
the next one (R123). -/
def PostedEntry.merges (e : PostedEntry) (st : HeldStore) : Prop :=
  e.taken = false ∧ e.target = st.target ∧ e.page = st.page ∧
    (st.offset.val + 1 = e.first.val + e.words.length ∨
      st.offset.val = e.first.val + e.words.length ∧ e.words.length < 8)

theorem PostedEntry.merges.merge_overlays (h : e.merges st) {ws : List MaskedWord} {u : MaskedWord}
    (hw : e.words = ws ++ [u]) (ho : st.offset.val + 1 = e.first.val + e.words.length) :
    e.merge st = some { e with words := ws ++ [overlay u st.word] } := by
  obtain ⟨hopen, ht, hp, -⟩ := h
  simp only [PostedEntry.merge, hopen, ht, hp, and_self, if_true, ho, hw, overlayLast_concat]

theorem PostedEntry.merges.merge_extends (h : e.merges st) (ho : st.offset.val = e.first.val + e.words.length) :
    e.merge st = some { e with words := e.words ++ [st.word] } := by
  obtain ⟨hopen, ht, hp, hroom⟩ := h
  have hne : st.offset.val + 1 ≠ e.first.val + e.words.length := by omega
  have hlen : st.offset.val = e.first.val + e.words.length ∧ e.words.length < Config.postedWords :=
    hroom.resolve_left hne
  rw [PostedEntry.merge, if_pos ⟨hopen, ht, hp⟩, if_neg hne, if_pos hlen]

theorem PostedEntry.merge_none (h : ¬e.merges st) : e.merge st = none := by
  unfold PostedEntry.merge
  split
  · rename_i hk
    obtain ⟨hopen, ht, hp⟩ := hk
    split
    · rename_i ho
      exact absurd ⟨hopen, ht, hp, .inl ho⟩ h
    · split
      · rename_i ho
        exact absurd ⟨hopen, ht, hp, .inr ho⟩ h
      · rfl
  · rfl

theorem mergeStore_concat (pre : List PostedEntry) (e : PostedEntry) (st : HeldStore) :
    mergeStore (pre ++ [e]) st = (e.merge st).map fun e' => pre ++ [e'] := by
  simp [mergeStore]

theorem mergeStore_none {posted : List PostedEntry} (h : ∀ pre e, posted = pre ++ [e] → ¬e.merges st) :
    mergeStore posted st = none := by
  obtain rfl | ⟨pre, e, rfl⟩ := List.eq_nil_or_concat' posted
  · rfl
  · rw [mergeStore_concat, PostedEntry.merge_none (h pre e rfl)]
    rfl

end Merge

/-! ## A store is placed (R123 to R125) -/

section Stores

variable {s : State} {st : HeldStore}

theorem State.placeStore_merges {posted : List PostedEntry} (h : mergeStore s.aperture.posted st = some posted) :
    s.placeStore st = ({ s with aperture := { s.aperture with posted := posted } } : State).releaseHost .done := by
  simp only [State.placeStore, h]

theorem State.placeStore_appends (h : mergeStore s.aperture.posted st = none) (hl : s.aperture.posted.length < 8) :
    s.placeStore st = (s.releaseHost .done).appendPosted st := by
  have hl : s.aperture.posted.length < Config.postedCapacity := hl
  simp only [State.placeStore, h, hl, if_true]

theorem State.placeStore_holds (h : mergeStore s.aperture.posted st = none) (hl : 8 ≤ s.aperture.posted.length) :
    s.placeStore st = s.holdHost (.store st) := by
  have hl : ¬s.aperture.posted.length < Config.postedCapacity := Nat.not_lt.mpr hl
  simp only [State.placeStore, h, hl, if_false]

/-- With no access held the end of one is its answer alone. -/
theorem State.releaseHost_free (h : s.host.held = none) (r : HostReply) : s.releaseHost r = s.answerHost r := by
  simp only [State.releaseHost, State.answerHost, ← h]

/-- The entry that a store opens, of one word (R123). -/
def HeldStore.opens (st : HeldStore) (p : Place) : PostedEntry :=
  { place := p, target := st.target, page := st.page, first := st.offset, words := [st.word], taken := false }

/-- The buffer with one more entry, the newest. -/
def State.withNewest (x : PostedEntry) (s : State) : State :=
  { s with aperture := { s.aperture with posted := s.aperture.posted ++ [x] } }

/-- Behind another entry for its target the new one waits (R123, R125). -/
theorem State.appendPosted_waits (h : ∃ e ∈ s.aperture.posted, e.target = st.target) :
    s.appendPosted st = s.withNewest (st.opens s.freePlace) := by
  have hne : (s.notedFor st.target).isEmpty = false := Bool.eq_false_iff.mpr fun he => by
    obtain ⟨e, hm, ht⟩ := h
    exact (s.notedFor_eq_nil st.target).mp (List.isEmpty_iff.mp he) e hm ht
  simp only [State.appendPosted, hne, Bool.false_eq_true, if_false]
  rfl

/-- Alone for its target the new entry is presented at once (R125). -/
theorem State.appendPosted_presents (h : ∀ e ∈ s.aperture.posted, e.target ≠ st.target) :
    s.appendPosted st = (s.withNewest (st.opens s.freePlace)).presentPosted (st.opens s.freePlace) := by
  have hnil : (s.notedFor st.target).isEmpty = true := List.isEmpty_iff.mpr ((s.notedFor_eq_nil st.target).mpr h)
  simp only [State.appendPosted, hnil, if_true]
  rfl

theorem State.endHeldStore_conflict (hh : s.host.held = some (.store st)) (hl : s.membership.link = .conflict) :
    s.endHeldStore = (s.releaseHost .busError).addEvent (.refusedAccess st.address .linkDown) := by
  simp only [State.endHeldStore, hh, hl, if_true]

/-- A store of the host that is placed no longer stands on the host bus, so that it was held makes no difference (R124). -/
theorem State.endHeldStore_placed (hh : s.host.held = some (.store st)) (hl : s.membership.link = .online)
    (hn : s.aperture.posted.length < 8) :
    s.endHeldStore = ({ s with host := { s.host with held := none } } : State).placeStore st := by
  have hn' : s.aperture.posted.length < Config.postedCapacity := hn
  have hplace : s.endHeldStore = s.placeStore st := by
    simp only [State.endHeldStore, hh, hl, reduceCtorEq, if_false, hn', and_self, if_true]
  rw [hplace]
  cases hm : mergeStore s.aperture.posted st with
  | some posted =>
    rw [State.placeStore_merges hm,
      State.placeStore_merges (s := { s with host := { s.host with held := none } }) hm]
    rfl
  | none =>
    rw [State.placeStore_appends hm hn,
      State.placeStore_appends (s := { s with host := { s.host with held := none } }) hm hn]
    rfl

end Stores

/-- Settles O28: a translated store by whether it merges, finds room and stands alone, and the end of a held store. -/
theorem storesMergeAppendOrAreHeld : Obligations.StoresMergeAppendOrAreHeld := by
  refine ⟨fun a size v lanes m s hb hl ha hm hv => ?_, fun st s hr hh => ⟨fun hl => ?_, fun hl hn => ⟨?_, running_high _ hr⟩⟩,
    fun a size v lanes m s hb hl ha hm hv => exec_apertureStore hb hl ha hm hv⟩
  · intro w merges
    let st : HeldStore :=
      { target := m.target, page := m.page, offset := apertureWord a, word := w, address := a }
    have hheld := State.held_of_free hb
    have hstore : exec (.apertureStore a size v) s = .next (s.placeStore st) := exec_apertureStore hb hl ha hm hv
    have hmerges {posted : List PostedEntry} (hp : mergeStore s.aperture.posted st = some posted) :
        exec (.apertureStore a size v) s =
          .next (({ s with aperture := { s.aperture with posted := posted } } : State).answerHost .done) := by
      rw [hstore, State.placeStore_merges hp]
      exact congrArg _ (State.releaseHost_free (by exact hheld) _)
    have happends (hn : ∀ pre e, s.aperture.posted = pre ++ [e] → ¬merges e) (hroom : s.aperture.posted.length < 8) :
        exec (.apertureStore a size v) s = .next ((s.answerHost .done).appendPosted st) := by
      rw [hstore, State.placeStore_appends (mergeStore_none hn) hroom, State.releaseHost_free hheld]
    refine ⟨fun pre e ws u hp he hw ho => ?_, fun pre e hp he ho => ?_, fun hn hroom ho => ?_, fun hn hroom ho => ?_,
      fun hn hfull => ?_⟩
    · have he : e.merges st := he
      exact hmerges (by rw [hp, mergeStore_concat, he.merge_overlays hw ho, Option.map_some])
    · have he : e.merges st := he
      exact hmerges (by rw [hp, mergeStore_concat, he.merge_extends ho, Option.map_some])
    · refine ⟨s.freePlace, State.freePlace_spec hroom, ?_⟩
      rw [happends hn hroom, State.appendPosted_waits (s := s.answerHost .done) (st := st) ho]
      rfl
    · refine ⟨s.freePlace, State.freePlace_spec hroom, ?_⟩
      intro e holding roster
      have happ : exec (.apertureStore a size v) s = .next ((holding e).presentPosted e) := by
        rw [happends hn hroom, State.appendPosted_presents (s := s.answerHost .done) (st := st) ho]
        rfl
      have hadm : (holding e).admits (.posted e.place) := .inl hl
      have hplaces : ∀ f ∈ s.aperture.posted ++ [], f.place ≠ e.place := by
        simpa using State.freePlace_spec hroom
      have hx : (holding e).aperture.posted = s.aperture.posted ++ e :: [] := rfl
      refine ⟨fun hro => ?_, fun hro => ?_, fun h1 h2 g hg => ?_⟩
      · exact happ.trans (congrArg _ (State.present_refused hadm (by nofun) (congrArg RosterState.refusal hro)))
      · exact happ.trans (congrArg _ (State.present_refused hadm (by nofun) (congrArg RosterState.refusal hro)))
      · intro body taken
        have hro := RosterState.refusal_none h1 h2
        have hk : (holding e).take (.posted e.place) = taken := State.take_posted hx hplaces
        refine ⟨fun ht => ?_, fun ht => ?_⟩
        · exact happ.trans (congrArg _ (State.present_queues hadm (by nofun) hro hg ht hk))
        · exact happ.trans (congrArg _ (State.present_answered hadm (by nofun) hro hg ht hk fun u hu _ x hb ho =>
            State.loopbackOffer_posted (e := { e with taken := true }) (congrArg Aperture.posted hu)
              (fun f hf => hplaces f (by simp [hf])) hb ho))
    · rw [hstore, State.placeStore_holds (mergeStore_none hn) hfull]
      rfl
  · exact running_eq hr (State.endHeldStore_conflict hh hl)
  · exact State.endHeldStore_placed hh hl hn

end Sys2Proof.Machine

/-! SUPPORT. A step with no command in the queue (log entry 6): that every command answers, and one bit time of the medium, the
intervals, the timers and the start-up. -/

namespace Sys2Proof.Machine

/-! ## Every command answers -/

theorem running_answers (s : State) (f : State → State) : ∃ t, running s f = .next t := by
  unfold running
  split <;> exact ⟨_, rfl⟩

theorem hostAccess_answers (c : Instr) (s : State) (f : State → State) : ∃ t, hostAccess c s f = .next t := by
  unfold hostAccess
  split <;> exact ⟨_, rfl⟩

theorem execResetReleased_answers (p : ResetPulse) (s : State) : ∃ t, execResetReleased p s = .next t := by
  unfold execResetReleased
  split
  · cases p <;> exact ⟨_, rfl⟩
  · exact ⟨_, rfl⟩

/-- No command is refused: a host access is taken or waits, a happening acts or is ruled out. -/
theorem exec_answers (c : Instr) (s : State) : ∃ t, exec c s = .next t := by
  cases c with
  | join | leave | softReset | inboundEnableWrite | limitsWrite | mapBaseWrite | linkCauseClear | interruptMaskWrite
  | fenceRead | signalPop | eventPop | maintRegisterWrite | update | read | invalidateAll | maintCommandUndefined
  | slotParameterWrite | go | release | cancel | slotCommandUndefined | registerWrite | registerAccessInvalid
  | apertureStore | apertureLoad => apply hostAccess_answers
  | fenceReadComplete | heldStorePlaced | postedEntryPresented | loadPresented | slotPresented | drainComplete
  | transmitOpportunity | arbitrationLost | readbackAbort | requestAcknowledge | replyAcknowledge | announceTransmitted
  | leaveTransmitted | backoffElapsed | loopbackBackoffElapsed | replyBackoffElapsed | responseTimeout | roundGapElapsed
  | joinListenComplete | mediumSyncRun | strayDominantBit | badFrame | malformedFrame | frameHeard | ownSourceFrameHeard
  | readReq | writeReq | atomicReq | signal | probe | response | announce | leaveFrame | executionStart | mapFillEnd
  | dataCycleEnd | lockedReadPhaseEnd | lockedWritePhaseEnd | mapWriteEnd | maintMapReadEnd | discardedCycleEnd
  | hostPortReady | startMarker | acknowledgeSlotCompleted => apply running_answers
  | resetAsserted landed =>
    show ∃ t, execResetAsserted landed s = .next t
    unfold execResetAsserted
    split <;> exact ⟨_, rfl⟩
  | resetReleased p => exact execResetReleased_answers p s

/-! ## The idle step -/

section IdleStep

variable {s : State}

theorem step_idle (hq : s.pending = []) : step s = s.idleStep exec := by
  simp only [step, hq]

theorem idleStep_due {c : Instr} (hd : s.due = some c) (run : Instr → State → Result) : s.idleStep run = run c s := by
  simp only [State.idleStep, hd]

theorem idleStep_access {c : Instr} {rest : List Instr} (hd : s.due = none) (hn : s.nextAccess = some (c, rest))
    (run : Instr → State → Result) : s.idleStep run = putBack rest (run c (s.withWaiting [])) := by
  simp only [State.idleStep, hd, hn]

theorem idleStep_tick (hd : s.due = none) (hn : s.nextAccess = none) (run : Instr → State → Result) :
    s.idleStep run = .next s.tick := by
  simp only [State.idleStep, hd, hn]

theorem State.due_resetLow (h : s.pins.resetLow = true) : s.due = none := if_pos h

theorem State.nextAccess_taken {c : Instr} {rest : List Instr} (hw : s.host.waiting = c :: rest)
    (hr : s.pins.resetLow = false) (hst : s.host.startup = none) (hh : s.host.held = none) :
    s.nextAccess = some (c, rest) := by
  simp [State.nextAccess, hw, hr, hst, hh]

theorem State.nextAccess_none
    (h : s.host.waiting = [] ∨ s.pins.resetLow = true ∨ s.host.startup ≠ none ∨ s.host.held ≠ none) :
    s.nextAccess = none := by
  unfold State.nextAccess
  split
  · rfl
  · rename_i hw
    refine if_pos ?_
    simpa [hw, Option.isSome_iff_ne_none] using h

end IdleStep

/-! ## One bit time -/

theorem bitTimeNs_eq (rate : BitVec 2) : Config.bitTimeNs rate = 400 / 2 ^ rate.toNat := by
  revert rate
  decide

/-- The medium after one bit time, by its phase (R79, R92). -/
theorem LinkUnit.tick_eq (u : LinkUnit) :
    u.tick =
      match u.phase with
      | .idle => { u with idleLength := u.idleLength + 1 }
      | .recovering => { u with phase := .idle, idleLength := 1 }
      | .sync run => { u with phase := .sync (run + 1) }
      | .ending n =>
        if n ≤ 1 then { u with phase := .idle, idleLength := 0, driving := none }
        else if n = 2 then { u with phase := .ending 1, driving := none }
        else { u with phase := .ending (n - 1) }
      | .frame | .own _ => u := by
  unfold LinkUnit.tick
  cases u.phase with
  | ending n =>
    simp only
    split_ifs with h1 h2
    · rfl
    · rw [h2]
    · rfl
  | idle => rfl
  | recovering => rfl
  | sync run => rfl
  | frame => rfl
  | own tx => rfl

theorem LinkUnit.tick_slotLeft (u : LinkUnit) : u.tick.slotLeft = u.slotLeft := by
  unfold LinkUnit.tick
  cases u.phase with
  | ending n =>
    simp only
    split <;> rfl
  | idle => rfl
  | recovering => rfl
  | sync run => rfl
  | frame => rfl
  | own tx => rfl

/-- A reply's backoff loses one BT, and no other entry of the list changes (R100). -/
theorem ListEntry.tick_eq (e : ListEntry) :
    ({ e with state := e.state.tick } : ListEntry) =
      match e.state with
      | .replyBackoff n => { e with state := .replyBackoff (n - 1) }
      | _ => e := by
  obtain ⟨source, tag, issue, page, offset, body, state, orphaned, status, data, attempts, localAddr⟩ := e
  cases state <;> rfl

section Tick

variable {s : State}

theorem State.tick_resetLow (h : s.pins.resetLow = true) : s.tick = s := if_pos h

/-- The state after one bit time at a duration in ns. -/
def State.ticked (ns : Nat) (s : State) : State :=
  { s with
    link := (if s.follows then s.link.tick else s.link).tickSlot
    outbound :=
      { s.outbound with table := s.outbound.table.map fun o => o.map fun e => { e with state := e.state.tick ns } }
    inbound := { s.inbound with list := s.inbound.list.map fun e => { e with state := e.state.tick } }
    host := { s.host with startup := s.host.startup.map fun n => n - ns / 25 } }

theorem State.tick_high (h : s.pins.resetLow = false) : s.tick = s.ticked (400 / 2 ^ s.membership.rate.toNat) := by
  rw [← bitTimeNs_eq]
  exact if_neg (by simp [h])

theorem State.ticked_entry (ns : Nat) (g : Tag) :
    (s.ticked ns).outbound.table[g] = (s.outbound.table[g]).map fun e => { e with state := e.state.tick ns } := by
  simp [State.ticked]

theorem State.ticked_entry_some (ns : Nat) {g : Tag} {e : TransEntry} (hg : s.outbound.table[g] = some e) {st : TransState}
    (hs : e.state = st) : (s.ticked ns).outbound.table[g] = some { e with state := st.tick ns } := by
  rw [State.ticked_entry, hg, ← hs]
  rfl

theorem State.ticked_entry_untimed (ns : Nat) {g : Tag} {e : TransEntry} (hg : s.outbound.table[g] = some e)
    (hs : e.state = .queued ∨ e.state = .onAir) : (s.ticked ns).outbound.table[g] = some e := by
  have ht : e.state.tick ns = e.state := by obtain hs | hs := hs <;> rw [hs] <;> rfl
  rw [State.ticked_entry, hg, Option.map_some, ht]

theorem State.follows_iff : s.follows = true ↔ s.link.attached = true ∧ s.membership.link ≠ .offline := by
  simp [State.follows]

end Tick

/-- Settles O4: what is due, the access that waits first, RESET low, and one bit time by its parts. -/
theorem idleStepIsOneBitTime : Obligations.IdleStepIsOneBitTime := by
  refine ⟨fun c s hq hd => ?_, fun c rest s hq hd hr hst hh hw => ?_, fun s hq hr => ?_, fun s hq hd hr hw => ?_⟩
  · rw [step_idle hq, idleStep_due hd]
  · obtain ⟨t, ht⟩ := exec_answers c (s.withWaiting [])
    refine ⟨t, ht, ?_⟩
    rw [step_idle hq, idleStep_access hd (State.nextAccess_taken hw hr hst hh), ht]
    rfl
  · rw [step_idle hq, idleStep_tick (State.due_resetLow hr) (State.nextAccess_none (.inr (.inl hr))),
      State.tick_resetLow hr]
  · intro ns medium followed
    have hmedium : s.link.tick = medium := s.link.tick_eq
    refine ⟨s.ticked ns, ?_, fun hf => ?_, fun hf => ?_, fun g hg => ?_, fun g e hg => ⟨fun n hs => ?_, fun n hs => ?_, ?_⟩,
      rfl, rfl, ?_, rfl, rfl, rfl, rfl, rfl, rfl, rfl, rfl, rfl, rfl, rfl, rfl, rfl, rfl, rfl⟩
    · rw [step_idle hq, idleStep_tick hd (State.nextAccess_none (hw.imp_right .inr)), State.tick_high hr]
    · have hslot : medium.slotLeft = s.link.slotLeft := hmedium ▸ s.link.tick_slotLeft
      rw [State.ticked, if_pos (State.follows_iff.mpr hf), hmedium, LinkUnit.tickSlot, hslot]
    · rw [State.ticked, if_neg (mt State.follows_iff.mp hf)]
      rfl
    · rw [State.ticked_entry, hg]
      rfl
    · exact State.ticked_entry_some ns hg hs
    · exact State.ticked_entry_some ns hg hs
    · exact State.ticked_entry_untimed ns hg
    · exact List.map_congr_left fun e _ => e.tick_eq

end Sys2Proof.Machine

/-! SUPPORT. What the one status of a transaction does at its origin (R73, R127, R129, R143), the follow-ons of a removal one by
one (R127), and the outbound status (R78). -/

namespace Sys2Proof.Machine

/-! ## A slot receives its status and results (R143) -/

/-- Words stored from a place on: those given, and behind them the words as they were. -/
theorem storeWords_getElem (ws : List Word) (i : Nat) (v : Vector Word 16) (j : Fin 16) :
    (storeWords ws i v)[j] = if i ≤ j.val then ws.getD (j.val - i) v[j] else v[j] := by
  induction ws generalizing i v with
  | nil => simp [storeWords]
  | cons w ws ih =>
    rw [storeWords, ih]
    rcases Nat.lt_trichotomy i j.val with hlt | heq | hgt
    · have hsub : j.val - i = j.val - (i + 1) + 1 := by omega
      have hne : i ≠ j.val := by omega
      have hset : (if h : i < 16 then v.set i w h else v)[j] = v[j] := by
        split
        · simp [hne]
        · rfl
      rw [if_pos (by omega), if_pos (by omega), hset, hsub, List.getD_cons_succ]
    · have hi : i < 16 := heq ▸ j.isLt
      rw [if_neg (by omega), if_pos (by omega), dif_pos hi]
      simp [heq]
    · have hne : i ≠ j.val := by omega
      rw [if_neg (by omega), if_neg (by omega)]
      split
      · simp [hne]
      · rfl

section Finish

variable (sl : Slot) (st : Status) (data : List Word)

theorem Slot.finish_buffer (i : Fin 16) :
    (sl.finish st data).buffer[i] =
      if st = .ok ∧ sl.kind = 1#4 then data.getD i.val sl.buffer[i] else sl.buffer[i] := by
  unfold Slot.finish
  by_cases hs : st = .ok
  · by_cases hk : sl.kind = 1#4
    · simp only [hs, hk, if_true, and_self]
      rw [storeWords_getElem, if_pos (Nat.zero_le _), Nat.sub_zero]
    · simp only [hs, hk, if_true, if_false, and_false]
      split <;> rfl
  · simp only [hs, if_false, false_and]

theorem Slot.isAtomic_iff : sl.isAtomic = true ↔ sl.kind = 3#4 ∨ sl.kind = 4#4 ∨ sl.kind = 5#4 := by
  simp [Slot.isAtomic, or_assoc]

theorem Slot.finish_result :
    (sl.finish st data).result =
      if st = .ok ∧ (sl.kind = 3#4 ∨ sl.kind = 4#4 ∨ sl.kind = 5#4) then data.headD 0#32 else sl.result := by
  simp only [← Slot.isAtomic_iff]
  unfold Slot.finish
  by_cases hs : st = .ok
  · by_cases hk : sl.kind = 1#4
    · have ha : sl.isAtomic = false := by simp [Slot.isAtomic, hk]
      simp [hs, hk, ha]
    · simp only [hs, hk, if_true, if_false, true_and]
      show (if sl.isAtomic = true then _ else _ : Slot).result = _
      split <;> rfl
  · simp only [hs, if_false, false_and]

/-- What the end of a slot leaves of it (R136, R143). -/
theorem Slot.finish_frame :
    ∃ buffer result, sl.finish st data =
      { sl with state := .done, status := some st, cancelPending := false, buffer := buffer, result := result } := by
  unfold Slot.finish
  simp only
  split_ifs <;> exact ⟨_, _, rfl⟩

end Finish

/-! ## Posted entries and held loads receive their status (R127, R129) -/

section Origins

variable {s : State} {p : Place} {st : Status}

theorem State.endPosted_ok {e : PostedEntry} (he : s.postedAt p = some e) : s.endPosted p .ok = s.dropPosted p := by
  simp only [State.endPosted, he, if_true]

theorem State.endPosted_failed {e : PostedEntry} (he : s.postedAt p = some e) (h : st ≠ .ok) :
    s.endPosted p st = (s.dropPosted p).failPosted e st := by
  simp only [State.endPosted, he, if_neg h]

theorem State.endLoad_ok {l : HeldLoad} (hh : s.host.held = some (.load l)) (data : List Word) :
    s.endLoad .ok data = s.releaseHost (.data (data.headD 0#32)) := by
  simp only [State.endLoad, hh, if_true]

theorem State.endLoad_failed {l : HeldLoad} (hh : s.host.held = some (.load l)) (h : st ≠ .ok) (data : List Word) :
    s.endLoad st data = (s.releaseHost .busError).addEvent (.failure .apertureReadFailed l.target l.page st) := by
  simp only [State.endLoad, hh, if_neg h]

theorem SlotState.forget_fence (p : Place) (noted : List Place) :
    SlotState.forget p (.fence noted) = .fence (noted.filter fun q => decide (q ≠ p)) := rfl

theorem SlotState.forget_other {x : SlotState} (h : ∀ noted, x ≠ .fence noted) (p : Place) : x.forget p = x := by
  cases x with
  | fence noted => exact absurd rfl (h noted)
  | idle => rfl
  | entry => rfl
  | done => rfl

theorem HeldAccess.forget_other {x : HeldAccess} (h : ∀ l, x ≠ .load l) (p : Place) : x.forget p = x := by
  cases x with
  | load l => exact absurd rfl (h l)
  | store st => rfl
  | fence => rfl

theorem State.dropPosted_slot (p : Place) (k : SlotNo) :
    (s.dropPosted p).slots[k] = { s.slots[k] with state := s.slots[k].state.forget p } := by
  simp [State.dropPosted]

theorem State.dropPosted_held_other (h : ∀ l, s.host.held ≠ some (.load l)) (p : Place) :
    (s.dropPosted p).host.held = s.host.held := by
  show s.host.held.map (HeldAccess.forget p) = s.host.held
  cases hh : s.host.held with
  | none => rfl
  | some x => rw [Option.map_some, HeldAccess.forget_other (fun l hx => h l (by rw [hh, hx])) p]

end Origins

/-! ## The follow-ons of a removal one by one (R127) -/

section FollowOns

variable {s : State}

theorem State.eligible_none (h : s.noneEligible) : s.aperture.posted.find? s.eligible = none :=
  List.find?_eq_none.mpr fun _ _ he => by
    obtain ⟨pre, post, hx, hel⟩ := State.eligible_spec he
    exact h pre _ post hx hel

/-- The first eligible entry of the buffer (R125). -/
theorem State.eligible_first {pre post : List PostedEntry} {e : PostedEntry} (hx : s.aperture.posted = pre ++ e :: post)
    (he : eligibleAt pre e post)
    (hfirst : ∀ a f b, s.aperture.posted = a ++ f :: b → eligibleAt a f b → pre.length ≤ a.length) :
    s.aperture.posted.find? s.eligible = some e := by
  have hnone : ∀ f ∈ pre, s.eligible f = false := fun f hf => Bool.eq_false_iff.mpr fun hel => by
    obtain ⟨a, b, hab, hfel⟩ := State.eligible_spec hel
    have hlen := hfirst a f b hab hfel
    obtain ⟨c, rfl⟩ : pre <+: a :=
      List.prefix_of_prefix_length_le ⟨e :: post, hx.symm⟩ ⟨f :: b, hab.symm⟩ hlen
    exact hfel.2.1 f (by simp [hf]) rfl
  have hself := State.eligible_of hx he
  rw [hx]
  exact find?_at hself hnone

theorem State.storeDue_iff : s.storeDue = true ↔ ¬s.noStoreDue := by
  unfold State.storeDue State.noStoreDue
  split
  · rename_i st hh
    simp only [hh, Option.some.injEq, HeldAccess.store.injEq, forall_eq', Bool.or_eq_true, Bool.and_eq_true, beq_iff_eq,
      decide_eq_true_eq]
    by_cases hc : s.membership.link = .conflict <;> simp [hc, Config.postedCapacity]
  · rename_i hn
    simp only [Bool.false_eq_true, false_iff, not_not]
    exact fun h hh => absurd hh (hn h)

theorem State.loadDue_iff : s.loadDue = true ↔ ¬s.noLoadDue := by
  unfold State.loadDue State.noLoadDue
  split
  · rename_i l hh
    simp [hh]
  · rename_i hn
    simp only [Bool.false_eq_true, false_iff, not_not]
    exact fun l hh => absurd hh (hn l)

theorem State.fenceDue_iff : s.fenceDue = true ↔ ¬s.noFenceDue := by
  simp [State.fenceDue, State.noFenceDue]

theorem State.slotDue_none (h : s.noSlotDue) : s.slotDue = none :=
  List.find?_eq_none.mpr fun k _ hk => h k (by simpa using hk)

theorem State.slotDue_first {k : SlotNo} (hk : s.slots[k].state = .fence [])
    (hfirst : ∀ j, j < k → s.slots[j].state ≠ .fence []) : s.slotDue = some k := by
  have hsplit : ∀ k : SlotNo, ∃ post, ([0, 1, 2, 3] : List SlotNo) = ([0, 1, 2, 3] : List SlotNo).take k.val ++ k :: post ∧
      ∀ j ∈ ([0, 1, 2, 3] : List SlotNo).take k.val, j < k := fun k =>
    ⟨([0, 1, 2, 3] : List SlotNo).drop (k.val + 1), by revert k; decide⟩
  obtain ⟨post, hlist, hlt⟩ := hsplit k
  unfold State.slotDue
  rw [hlist]
  exact find?_at (beq_iff_eq.mpr hk) fun j hj => by simpa using hfirst j (hlt j hj)

/-- The next follow-on, by what is due first in the order of R127. -/
theorem State.followOnce_posted {e : PostedEntry} (h : s.aperture.posted.find? s.eligible = some e) :
    s.followOnce = some (s.presentPosted e) := by
  simp only [State.followOnce, h]

theorem State.followOnce_store (he : s.noneEligible) (h : ¬s.noStoreDue) : s.followOnce = some s.endHeldStore := by
  simp only [State.followOnce, State.eligible_none he, State.storeDue_iff.mpr h, if_true]

theorem State.followOnce_load (he : s.noneEligible) (hs : s.noStoreDue) (h : ¬s.noLoadDue) :
    s.followOnce = some s.presentLoad := by
  simp only [State.followOnce, State.eligible_none he, State.storeDue_iff, hs, not_true, if_false,
    State.loadDue_iff.mpr h, if_true]

theorem State.followOnce_slot (he : s.noneEligible) (hs : s.noStoreDue) (hl : s.noLoadDue) {k : SlotNo}
    (h : s.slotDue = some k) : s.followOnce = some (s.presentSlot k) := by
  simp only [State.followOnce, State.eligible_none he, State.storeDue_iff, hs, State.loadDue_iff, hl, not_true, if_false, h]

theorem State.followOnce_fence (he : s.noneEligible) (hs : s.noStoreDue) (hl : s.noLoadDue) (hk : s.noSlotDue) :
    s.followOnce = if s.fenceDue then some s.completeFence else none := by
  simp only [State.followOnce, State.eligible_none he, State.storeDue_iff, hs, State.loadDue_iff, hl, not_true, if_false,
    State.slotDue_none hk]

theorem State.followOns_once {t : State} (h : s.followOnce = some t) (n : Nat) : s.followOns (n + 1) = t.followOns n := by
  simp only [State.followOns, h]

/-- No more than one access is held, so the end of one kind rules the others out (R170). -/
theorem State.noStoreDue_of_load (h : ¬s.noLoadDue) : s.noStoreDue := by
  obtain ⟨l, hh, -⟩ : ∃ l, s.host.held = some (.load l) ∧ ¬(l.noted = [] → l.presented = true) := by
    simpa [State.noLoadDue] using h
  exact fun st hst => absurd (hh.symm.trans hst) nofun

theorem State.held_of_fenceDue (h : ¬s.noFenceDue) : s.host.held = some .fence := by
  by_contra hn
  exact h fun hh => absurd hh hn

end FollowOns

/-! ## The outbound status (R78, R175) -/

theorem State.readRegister_outboundStatus (s : State) : s.readRegister 0x020#12 = s.outboundStatus := rfl

theorem State.allocated_le (s : State) : s.allocated ≤ 16 := by
  have h := List.countP_le_length (p := Option.isSome) (l := s.outbound.table.toList)
  rwa [Vector.length_toList] at h

theorem State.waitingEntries_le (s : State) : s.waitingEntries ≤ 16 := by
  have h := List.countP_le_length (p := fun o : Option TransEntry =>
    match o with
    | some e => e.state.isWaiting
    | none => false) (l := s.outbound.table.toList)
  rw [Vector.length_toList] at h
  exact h

theorem State.outboundStatus_toNat (s : State) : s.outboundStatus.toNat = s.allocated + 256 * s.waitingEntries := by
  have ha := s.allocated_le
  have hw := s.waitingEntries_le
  rw [State.outboundStatus, BitVec.toNat_ofNat]
  omega

/-- Settles O32: the end of an entry, the status at each origin, a removal, its follow-ons one by one, and the status
register. -/
theorem anEndDeliversOneStatusToItsOrigin : Obligations.AnEndDeliversOneStatusToItsOrigin := by
  refine ⟨fun g e st data s hg => State.endEntry_eq hg st data, fun st data s => ⟨fun k => ?_, fun p e he => ⟨?_, fun h => ?_⟩,
    fun l hh => ⟨?_, fun h => ?_⟩⟩, fun p s => ?_, fun s => ⟨rfl, fun n he hs hl hk hf => ?_, fun n pre post e hx he hfirst => ?_,
    fun hr he => ⟨fun n hs => ?_, fun n hl => ?_, fun n k hs hl hk hfirst => ?_, fun n hk hf => ?_⟩⟩, fun s => ?_⟩
  · obtain ⟨buffer, result, hf⟩ := s.slots[k].finish_frame st data
    refine ⟨s.slots[k].finish st data, rfl, ?_, ?_, ?_, ?_, ?_, ?_, ?_, ?_, ?_, ?_, s.slots[k].finish_buffer st data,
      s.slots[k].finish_result st data⟩ <;> rw [hf]
  · rintro rfl
    exact State.endPosted_ok he
  · exact State.endPosted_failed he h
  · rintro rfl
    exact State.endLoad_ok hh data
  · exact State.endLoad_failed hh h data
  · refine ⟨(s.dropPosted p).slots, (s.dropPosted p).host.held, rfl, fun k => ⟨fun noted hn => ?_, fun hn => ?_⟩, fun l hh => ?_,
      fun hh => ?_⟩
    · rw [State.dropPosted_slot, hn, SlotState.forget_fence]
    · rw [State.dropPosted_slot, SlotState.forget_other hn]
    · simp only [State.dropPosted, hh, Option.map_some]
      rfl
    · exact State.dropPosted_held_other hh p
  · have hfence : s.fenceDue = false := Bool.eq_false_iff.mpr fun hd => State.fenceDue_iff.mp hd hf
    refine State.followOns_settled ?_ n
    rw [State.followOnce_fence he hs hl hk, hfence]
    rfl
  · exact State.followOns_once (State.followOnce_posted (State.eligible_first hx he hfirst)) n
  · exact ⟨_, running_high _ hr, State.followOns_once (State.followOnce_store he hs) n⟩
  · exact ⟨_, running_high _ hr, State.followOns_once (State.followOnce_load he (State.noStoreDue_of_load hl) hl) n⟩
  · exact ⟨_, running_high _ hr, State.followOns_once (State.followOnce_slot he hs hl (State.slotDue_first hk hfirst)) n⟩
  · have hheld := State.held_of_fenceDue hf
    have hdue := State.fenceDue_iff.mpr hf
    have hs : s.noStoreDue := fun st hst => absurd (hheld.symm.trans hst) nofun
    have hl : s.noLoadDue := fun l hh => absurd (hheld.symm.trans hh) nofun
    refine ⟨s.completeFence, running_eq hr (if_pos hdue), State.followOns_once ?_ n⟩
    rw [State.followOnce_fence he hs hl hk, if_pos hdue]
  · refine ⟨⟨s.allocated, Nat.lt_succ_of_le s.allocated_le⟩, ⟨s.waitingEntries, Nat.lt_succ_of_le s.waitingEntries_le⟩, ?_, ?_, ?_⟩
    · rw [State.readRegister_outboundStatus, State.outboundStatus_toNat]
    · exact List.countP_eq_length_filter
    · refine (List.countP_congr fun o _ => ?_).trans List.countP_eq_length_filter
      rcases o with _ | ⟨issue, origin, target, body, state, attempts, lastCode, cancel⟩
      · rfl
      · cases state <;> rfl

end Sys2Proof.Machine

/-! SUPPORT. Request frames (R62, R82, R83, R85, R177), arbitration (R86) and the acknowledge slot (R92, R93). -/

namespace Sys2Proof

/-! ## Frames, arbitration and codes -/

/-- Class, length and body of a frame. -/
def RawFrame.is (f : RawFrame) (cls length : Nat) (body : FrameBody) : Prop :=
  f.cls.val = cls ∧ f.length.val = length ∧ f.body = body

/-- A frame that is well formed and can be on the medium (R83, R85). -/
def RawFrame.sendable (f : RawFrame) : Prop := f.malformed = false ∧ f.carriable = true

theorem RawFrame.is.sendable {f : RawFrame} {cls length : Nat} {body : FrameBody} (h : RawFrame.is f cls length body)
    (hc : body.classCode.map Fin.val = some cls) (hw : ∀ n, body.wordPart = some n → n = length)
    (hf : f.contentsFit = true) : RawFrame.sendable f := by
  obtain ⟨hcls, hlen, rfl⟩ := h
  obtain ⟨c, hcode, hval⟩ := Option.map_eq_some_iff.mp hc
  have hclass : f.body.classCode = some f.cls := by rw [hcode, Fin.ext (hval.trans hcls.symm)]
  refine ⟨by simp [RawFrame.malformed, hclass, hf], ?_⟩
  unfold RawFrame.carriable
  split
  · rename_i n hn
    simp [hw n hn, hlen]
  · rfl

theorem AtomicOp.operands_length (op : AtomicOp) : 1 ≤ op.operands.length ∧ op.operands.length ≤ 2 := by
  cases op <;> exact ⟨by simp [AtomicOp.operands], by simp [AtomicOp.operands]⟩

theorem length_val {n : Nat} (h : n ≤ 16) : (Fin.ofNat 32 n).val = n := Nat.mod_eq_of_lt (by omega)

/-- The lower class wins, and within one class the lower source (R86). -/
theorem RawFrame.beats_iff (f g : RawFrame) :
    f.beats g = true ↔ f.cls < g.cls ∨ f.cls = g.cls ∧ f.source < g.source := by
  have hf := f.source.isLt
  have hg := g.source.isLt
  rw [RawFrame.beats, decide_eq_true_iff]
  simp only [RawFrame.arbitrationField, Fin.lt_def, Fin.ext_iff]
  omega

theorem RawFrame.beats_total {f g : RawFrame} (h : f.cls ≠ g.cls ∨ f.source ≠ g.source) :
    f.beats g = true ∨ g.beats f = true := by
  rw [RawFrame.beats_iff, RawFrame.beats_iff]
  simp only [Fin.lt_def, Fin.ext_iff, ne_eq] at h ⊢
  omega

theorem slotCode_slotBits (c : AckCode) : slotCode c.slotBits = c := by
  cases c <;> decide

end Sys2Proof

namespace Sys2Proof.Machine

section RequestFrame

variable {s : State} {g : Tag} {e : TransEntry}

/-- The count of a request is one that its frame can carry (R58, R83). -/
def State.countFits (s : State) (e : TransEntry) : Prop :=
  (∀ p o n, e.body = .read p o n → 1 ≤ n ∧ n ≤ 16) ∧
    ∀ p o n, e.body = .write p o n →
      1 ≤ (s.writeItems e.origin n).length ∧ (s.writeItems e.origin n).length ≤ 16

theorem State.requestFrame_header (s : State) (g : Tag) (e : TransEntry) :
    (s.requestFrame g e).source = s.membership.own ∧ (s.requestFrame g e).dest = e.target ∧
      (s.requestFrame g e).tag = g ∧ (s.requestFrame g e).issue = e.issue := by
  unfold State.requestFrame
  simp only
  split <;> exact ⟨rfl, rfl, rfl, rfl⟩

theorem State.requestFrame_read {p : Page} {o : Offset} {n : Nat} (hb : e.body = .read p o n) :
    RawFrame.is (s.requestFrame g e) 1 0 (.readReq p o (Fin.ofNat 32 n)) := by
  unfold State.requestFrame
  simp only [hb]
  exact ⟨rfl, rfl, rfl⟩

theorem State.requestFrame_write {p : Page} {o : Offset} {n : Nat} (hb : e.body = .write p o n) {ws : List MaskedWord}
    (hw : s.writeItems e.origin n = ws) (hl : ws.length ≤ 16) :
    RawFrame.is (s.requestFrame g e) 1 ws.length (.writeReq p o ws) := by
  unfold State.requestFrame
  simp only [hb, hw]
  exact ⟨rfl, length_val hl, rfl⟩

theorem State.requestFrame_atomic {p : Page} {o : Offset} {op : AtomicOp} (hb : e.body = .atomic p o op) :
    RawFrame.is (s.requestFrame g e) 1 op.operands.length (.atomicReq p o op.code op.operands) := by
  obtain ⟨-, hl⟩ := AtomicOp.operands_length op
  unfold State.requestFrame
  simp only [hb]
  exact ⟨rfl, length_val (by omega), rfl⟩

theorem State.requestFrame_signal {v : Word} (hb : e.body = .signal v) :
    RawFrame.is (s.requestFrame g e) 2 1 (.signal [v]) := by
  unfold State.requestFrame
  simp only [hb]
  exact ⟨rfl, rfl, rfl⟩

theorem State.requestFrame_probe (hb : e.body = .probe) : RawFrame.is (s.requestFrame g e) 2 0 .probe := by
  unfold State.requestFrame
  simp only [hb]
  exact ⟨rfl, rfl, rfl⟩

theorem State.requestFrame_sendable (h : s.countFits e) : RawFrame.sendable (s.requestFrame g e) := by
  obtain ⟨hread, hwrite⟩ := h
  cases hb : e.body with
  | read p o n =>
    have hf := State.requestFrame_read (s := s) (g := g) hb
    obtain ⟨h1, h16⟩ := hread p o n hb
    refine hf.sendable rfl nofun ?_
    simp only [RawFrame.contentsFit, hf.2.1, hf.2.2, length_val h16]
    simp [h1, h16]
  | write p o n =>
    obtain ⟨h1, h16⟩ := hwrite p o n hb
    have hf := State.requestFrame_write (g := g) hb rfl h16
    refine hf.sendable rfl (fun n hn => (Option.some.inj hn).symm) ?_
    simp only [RawFrame.contentsFit, hf.2.1, hf.2.2]
    simp [h1, h16]
  | atomic p o op =>
    have hf := State.requestFrame_atomic (s := s) (g := g) hb
    refine hf.sendable rfl (fun n hn => (Option.some.inj hn).symm) ?_
    simp only [RawFrame.contentsFit, hf.2.1, hf.2.2]
    cases op <;> rfl
  | signal v =>
    have hf := State.requestFrame_signal (s := s) (g := g) hb
    refine hf.sendable rfl (fun n hn => (Option.some.inj hn).symm) ?_
    simp only [RawFrame.contentsFit, hf.2.1, hf.2.2]
    rfl
  | probe =>
    have hf := State.requestFrame_probe (s := s) (g := g) hb
    refine hf.sendable rfl nofun ?_
    simp only [RawFrame.contentsFit, hf.2.1, hf.2.2]
    rfl

theorem State.writeItems_posted {pre post : List PostedEntry} {x : PostedEntry} {o : Origin} (ho : o = .posted x.place)
    (hx : s.aperture.posted = pre ++ x :: post) (hn : ∀ y ∈ pre, y.place ≠ x.place) (n : Nat) :
    s.writeItems o n = x.words := by
  subst ho
  simp only [State.writeItems, State.postedAt_eq hx hn, Option.map_some, Option.getD_some]

end RequestFrame

/-- A reading of the slot that is no code's is reported as NONE (R93). -/
theorem slotCode_other {bits : BitVec 3} (h : ∀ c : AckCode, c.slotBits ≠ bits) : slotCode bits = .nothing :=
  (slotCode_eq_nothing_iff bits).mpr fun hb => by
    obtain rfl | rfl | rfl | rfl := hb
    · exact h .accept rfl
    · exact h .busy rfl
    · exact h .refuse rfl
    · exact h .stale rfl

/-- Settles O39: the frame by the kind of its entry, arbitration by class and source, and the slot by its codes. -/
theorem requestFramesArbitrationAndSlotCodes : Obligations.RequestFramesArbitrationAndSlotCodes := by
  refine ⟨fun g e s hread hwrite => ?_, fun f g => ⟨f.beats_iff g, RawFrame.beats_total⟩, slotCode_slotBits,
    fun bits => slotCode_other⟩
  intro f is
  obtain ⟨hsource, hdest, htag, hissue⟩ := s.requestFrame_header g e
  obtain ⟨hmal, hcar⟩ := State.requestFrame_sendable (g := g) ⟨hread, hwrite⟩
  refine ⟨hsource, hdest, htag, hissue, hmal, hcar, fun p o n hb => ?_, fun p o n hb => ⟨fun pre x post ho hx hn => ?_,
    fun k ho hn => ?_⟩, fun p o a hb => State.requestFrame_atomic hb, fun p o a hb => State.requestFrame_atomic hb,
    fun p o a b hb => State.requestFrame_atomic hb, fun v hb => State.requestFrame_signal hb, State.requestFrame_probe⟩
  · exact ⟨Fin.ofNat 32 n, length_val (hread p o n hb).2, State.requestFrame_read hb⟩
  · have hw := State.writeItems_posted ho hx hn n
    exact State.requestFrame_write hb hw (hw ▸ (hwrite p o n hb).2)
  · have hw : s.writeItems e.origin n = fullWords s.slots[k].buffer n := by rw [ho]; rfl
    have hlen := fullWords_length s.slots[k].buffer hn
    have hframe := State.requestFrame_write (g := g) hb hw (hlen.trans_le hn)
    rw [hlen] at hframe
    exact ⟨_, hlen, hframe, fullWords_getElem _ n⟩

end Sys2Proof.Machine

/-! SUPPORT. RESET going low (R158, R178): what is cut off, and what the cycle that is given up leaves in local memory. -/

namespace Sys2Proof.Machine

/-! ## A write given up in its midst (R158) -/

theorem writeLanded_none (ws : List MaskedWord) : ∀ (a : Word) (m : List Host.Cell), writeLanded ws a [] m = m := by
  induction ws with
  | nil => exact fun _ _ => rfl
  | cons w ws ih => exact fun a m => ih (a + 4#32) m

section GiveUp

variable {c : Cycle} {landed : List Bool} {m : List Host.Cell}

theorem Cycle.giveUp_dataRead {n : Nat} (hk : c.request.kind = .dataRead n) : c.giveUp landed m = m := by
  simp only [Cycle.giveUp, hk]

theorem Cycle.giveUp_mapRead {p : Page} (hk : c.request.kind = .mapRead p) : c.giveUp landed m = m := by
  simp only [Cycle.giveUp, hk]

theorem Cycle.giveUp_readPhase {op : AtomicOp} (hk : c.request.kind = .locked op) (ho : c.old = none) :
    c.giveUp landed m = m := by
  simp only [Cycle.giveUp, hk, ho, Option.bind_none]

theorem Cycle.giveUp_writePhase {op : AtomicOp} {old v : Word} (hk : c.request.kind = .locked op) (ho : c.old = some old)
    (hv : op.newValue old = some v) :
    c.giveUp landed m = writeLanded [{ mask := 0xF#4, data := v }] c.request.addr landed m := by
  simp only [Cycle.giveUp, hk, ho, Option.bind_some, hv]

theorem Cycle.giveUp_maskedWrite {ws : List MaskedWord} (hk : c.request.kind = .maskedWrite ws) :
    c.giveUp landed m = writeLanded ws c.request.addr landed m := by
  simp only [Cycle.giveUp, hk]

theorem Cycle.giveUp_mapWrite {p : Page} {e : MapEntry} (hk : c.request.kind = .mapWrite p e) :
    c.giveUp landed m =
      writeLanded [{ mask := 0xF#4, data := mapWord0 e }, { mask := 0xF#4, data := mapWord1 e }] c.request.addr landed m := by
  simp only [Cycle.giveUp, hk, mapEntryWords]

end GiveUp

/-! ## RESET going low (R178) -/

section AssertReset

variable {s : State} (landed : List Bool)

theorem exec_resetAsserted (hr : s.pins.resetLow = false) : exec (.resetAsserted landed) s = .next (s.assertReset landed) :=
  if_neg (by simp [hr])

theorem exec_hostPortReady (hr : s.pins.resetLow = false) :
    exec .hostPortReady s = .next { s with host := { s.host with startup := none } } :=
  if_neg (by simp [hr])

theorem State.assertReset_memory_none (hc : s.port.current = none) : (s.assertReset landed).memory = s.memory := by
  simp only [State.assertReset, hc]

theorem State.assertReset_memory {c : Cycle} (hc : s.port.current = some c) :
    (s.assertReset landed).memory = c.giveUp landed s.memory := by
  simp only [State.assertReset, hc]

theorem State.assertReset_reply_held (hh : s.host.held ≠ none) : (s.assertReset landed).host.reply = some .busError :=
  if_pos (Option.isSome_iff_ne_none.mpr hh)

theorem State.assertReset_reply_free (hh : s.host.held = none) : (s.assertReset landed).host.reply = s.host.reply :=
  if_neg (by simp [hh])

theorem State.onAir_iff : s.onAir ≠ none ↔ ∃ tx, s.link.phase = .own tx := by
  unfold State.onAir
  cases s.link.phase <;> simp

theorem LinkUnit.cutOff_phase (u : LinkUnit) (tx : Transmission) : u.cutOff.phase ≠ .own tx := by
  unfold LinkUnit.cutOff
  cases u.phase <;> simp

theorem State.assertReset_onAir : (s.assertReset landed).onAir = none := by
  by_contra h
  obtain ⟨tx, hp⟩ := State.onAir_iff.mp h
  exact s.link.cutOff_phase tx hp

theorem State.assertReset_receiveBuffer (h : s.onAir ≠ none) : (s.assertReset landed).link.receiveBuffer = .free := by
  obtain ⟨tx, hp⟩ := State.onAir_iff.mp h
  simp only [State.assertReset, LinkUnit.cutOff, hp]

end AssertReset

/-- Settles O6: the parts of a state whose RESET goes low, memory by the kind of the cycle given up, the end of the start-up,
and the words of a write that landed. -/
theorem resetPinGoesLowAndHostPortReturns : Obligations.ResetPinGoesLowAndHostPortReturns := by
  refine ⟨fun landed s hr => ⟨s.assertReset landed, exec_resetAsserted landed hr, rfl, rfl, rfl, rfl, rfl,
      State.assertReset_reply_held landed, State.assertReset_reply_free landed, rfl, rfl, State.assertReset_onAir landed,
      State.assertReset_receiveBuffer landed, State.assertReset_memory_none landed, ?dataRead, ?mapRead, ?readPhase,
      ?writePhase, ?maskedWrite, ?mapWrite, rfl, rfl, rfl, rfl, rfl, rfl, rfl, rfl, rfl, rfl⟩,
    fun s hr => exec_hostPortReady hr, fun w ws a landed m => ⟨rfl, writeLanded_none ws a m, rfl, rfl⟩⟩
  case dataRead => exact fun c n hc hk => (State.assertReset_memory landed hc).trans (Cycle.giveUp_dataRead hk)
  case mapRead => exact fun c p hc hk => (State.assertReset_memory landed hc).trans (Cycle.giveUp_mapRead hk)
  case readPhase => exact fun c op hc hk ho => (State.assertReset_memory landed hc).trans (Cycle.giveUp_readPhase hk ho)
  case writePhase =>
    exact fun c op old v hc hk ho hv =>
      (State.assertReset_memory landed hc).trans (Cycle.giveUp_writePhase hk ho hv)
  case maskedWrite => exact fun c ws hc hk => (State.assertReset_memory landed hc).trans (Cycle.giveUp_maskedWrite hk)
  case mapWrite => exact fun c p e hc hk => (State.assertReset_memory landed hc).trans (Cycle.giveUp_mapWrite hk)

end Sys2Proof.Machine

/-! SUPPORT. The happenings on the medium (R79 to R81, R84, R89, R99, R104) and what each does to the Link Unit. -/

namespace Sys2Proof.Machine

section Medium

variable {s : State}

/-! ## The quiet medium (R79, R81, R89, R104) -/

theorem State.endRound_idle (hf : s.follows = true) (hp : s.link.phase = .idle) :
    s.endRound = { s with link := { s.link with idleLength := max s.link.idleLength 30, spent := false, driving := none } } := by
  simp only [State.endRound, hf, hp, MediumPhase.quiet, Bool.and_self, if_true, LinkUnit.idleFor_idle hp,
    Config.roundGap]

theorem State.startSeen_idle (hf : s.follows = true) (hp : s.link.phase = .idle) :
    s.startSeen =
      { s with link := { s.link with phase := .frame, idleLength := 0, receiveBuffer := .filling, driving := none } } := by
  simp only [State.startSeen, hf, hp, MediumPhase.quiet, Bool.and_self, if_true]

theorem State.strayBit_idle (hf : s.follows = true) (hp : s.link.phase = .idle) :
    s.strayBit = { s with link := { s.link with phase := .recovering, idleLength := 0, driving := none } } := by
  simp only [State.strayBit, hf, hp, MediumPhase.quiet, Bool.and_self, if_true]

theorem State.endListen_idle (hl : s.membership.link = .listening) (hp : s.link.phase = .idle) :
    s.endListen =
      { s with
        membership := { s.membership with link := .announcing, announcePending := true }
        link := { s.link with idleLength := max s.link.idleLength 2000, driving := none }
        interrupt := { s.interrupt with linkCause := true } } := by
  have hset := State.setLink_changed (s := s) (l := .announcing) (by simp [hl])
  simp only [State.endListen, hl, hp, MediumPhase.quiet, and_self, if_true, hset, LinkUnit.idleFor_idle hp,
    Config.joinListen]

/-! ## A frame given up (R80, R84) -/

theorem State.dropFrame_frame (hf : s.follows = true) (hp : s.link.phase = .frame) (n : Nat) :
    s.dropFrame n = { s with link := s.link.giveUpFrame n } := by
  simp only [State.dropFrame, hf, hp, MediumPhase.receptive, Bool.and_self, if_true]

/-! ## The run after JOIN (R79) -/

theorem State.endSync_sync {n : Nat} (hp : s.link.phase = .sync n) :
    s.endSync = { s with link := { s.link with phase := .idle, idleLength := 11, driving := none, slotLeft := none } } := by
  simp only [State.endSync, hp, Config.interFrameGap]

theorem State.strayBit_sync {n : Nat} (hp : s.link.phase = .sync n) :
    s.strayBit = { s with link := { s.link with phase := .sync 0 } } := by
  simp only [State.strayBit, hp]

/-! ## The slot that a soft reset found begun (R99) -/

theorem State.endSlotAfterReset_offline {n : Nat} (hs : s.link.slotLeft = some n) (hl : s.membership.link = .offline) :
    s.endSlotAfterReset = { s with link := s.link.detach } := by
  simp only [State.endSlotAfterReset, hs, hl, if_true]

theorem State.endSlotAfterReset_joined {n : Nat} (hs : s.link.slotLeft = some n) (hl : s.membership.link ≠ .offline) :
    s.endSlotAfterReset = { s with link := { s.link with driving := none, slotLeft := none } } := by
  simp only [State.endSlotAfterReset, hs, hl, if_false]

end Medium

/-- Settles O41: each happening in the phase and the link state in which it comes. -/
theorem mediumHappeningsMoveTheLinkUnit : Obligations.MediumHappeningsMoveTheLinkUnit := by
  refine ⟨fun s hr => ⟨fun ha hl hp => ?quiet, fun ha hl hp => ?frame, fun hl hp => running_eq hr (State.endListen_idle hl hp),
      fun n hp => ⟨running_eq hr (State.endSync_sync hp), running_eq hr (State.strayBit_sync hp)⟩⟩,
    fun n s hr hs => ⟨fun hl => running_eq hr (State.endSlotAfterReset_offline hs hl),
      fun hl => running_eq hr (State.endSlotAfterReset_joined hs hl)⟩⟩
  case quiet =>
    have hf : s.follows = true := State.follows_iff.mpr ⟨ha, hl⟩
    exact ⟨running_eq hr (State.endRound_idle hf hp), running_eq hr (State.startSeen_idle hf hp),
      running_eq hr (State.strayBit_idle hf hp)⟩
  case frame =>
    have hf : s.follows = true := State.follows_iff.mpr ⟨ha, hl⟩
    exact ⟨running_eq hr (State.dropFrame_frame hf hp 0), fun n => running_eq hr (State.dropFrame_frame hf hp (n + 1))⟩

end Sys2Proof.Machine

/-! SUPPORT. Reading back what is driven: bit insertion and its removal (R80), the fields of a frame in their order (R82, R83,
R177), and the covered bits before the CRC (R84). -/

namespace Sys2Proof

/-! ## Bit insertion (R80) -/

/-- The run that a bit makes or continues. -/
def runWith (run : Nat) (last b : Bool) : Nat := if b == last then run + 1 else 1

section Insertion

variable {run : Nat} {last b : Bool} (bs : List Bool)

theorem insertBits_sixth (h : runWith run last b = 6) :
    insertBits run last (b :: bs) = b :: (!b) :: insertBits 1 (!b) bs := if_pos h

theorem insertBits_other (h : runWith run last b ≠ 6) :
    insertBits run last (b :: bs) = b :: insertBits (runWith run last b) b bs := if_neg h

theorem removeBits_sixth (h : runWith run last b = 6) :
    removeBits run last (b :: (!b) :: bs) = (removeBits 1 (!b) bs).map (b :: ·) :=
  (if_pos h).trans (if_neg (by simp))

theorem removeBits_other (h : runWith run last b ≠ 6) :
    removeBits run last (b :: bs) = (removeBits (runWith run last b) b bs).map (b :: ·) := by
  rw [removeBits.eq_def]
  exact if_neg h

end Insertion

/-- A receiver removes the bits that were inserted, and no others: the run that it counts is the transmitter's. -/
theorem removeBits_insertBits (bits : List Bool) : ∀ (run : Nat) (last : Bool),
    removeBits run last (insertBits run last bits) = some bits := by
  induction bits with
  | nil => exact fun _ _ => rfl
  | cons b bs ih =>
    intro run last
    by_cases h : runWith run last b = 6
    · rw [insertBits_sixth bs h, removeBits_sixth _ h, ih, Option.map_some]
    · rw [insertBits_other bs h, removeBits_other _ h, ih, Option.map_some]

/-! ## Numbers, words and items (R177) -/

section Fields

variable (rest : List Bool)

theorem takeNat_bitsOf_mod (k n : Nat) : ∀ acc,
    takeNat k acc (bitsOf k n ++ rest) = some (acc * 2 ^ k + n % 2 ^ k, rest) := by
  induction k with
  | zero => simp [takeNat, bitsOf, Nat.mod_one]
  | succ k ih =>
    intro acc
    have hstep : takeNat (k + 1) acc (bitsOf (k + 1) n ++ rest) =
        takeNat k (2 * acc + (n.testBit k).toNat) (bitsOf k n ++ rest) := rfl
    rw [hstep, ih, Nat.toNat_testBit, Nat.mod_pow_succ]
    ring_nf

theorem takeNat_bitsOf {k n : Nat} (h : n < 2 ^ k) : takeNat k 0 (bitsOf k n ++ rest) = some (n, rest) := by
  rw [takeNat_bitsOf_mod, Nat.mod_eq_of_lt h, Nat.zero_mul, Nat.zero_add]

theorem takeNat_flag (b : Bool) : takeNat 1 0 (b :: rest) = some (b.toNat, rest) := by
  simp [takeNat]

theorem takeNat_wordBits (w : Word) : takeNat 32 0 (wordBits w ++ rest) = some (w.toNat, rest) :=
  takeNat_bitsOf rest w.isLt

theorem takeMask_lanes (m : Lanes) :
    takeMask (m.getLsbD 0 :: m.getLsbD 1 :: m.getLsbD 2 :: m.getLsbD 3 :: rest) = some (m, rest) := by
  have hmask : ∀ m : Lanes, BitVec.ofNat 4 ((m.getLsbD 0).toNat + 2 * (m.getLsbD 1).toNat + 4 * (m.getLsbD 2).toNat +
      8 * (m.getLsbD 3).toNat) = m := by decide
  rw [takeMask, hmask]

theorem takeWords_wordBits (ws : List Word) :
    takeWords ws.length (ws.flatMap wordBits ++ rest) = some (ws, rest) := by
  induction ws with
  | nil => rfl
  | cons w ws ih => simp [takeWords, takeNat_wordBits, ih]

theorem takeItems_itemBits (items : List MaskedWord) :
    takeItems items.length (items.flatMap itemBits ++ rest) = some (items, rest) := by
  induction items with
  | nil => rfl
  | cons w ws ih =>
    simp [takeItems, itemBits, takeMask_lanes, takeNat_wordBits, ih, -BitVec.getLsbD_eq_getElem]

/-! ## Body and frame (R82, R83) -/

theorem FrameBody.kindCode_lt (b : FrameBody) : b.kindCode < 16 := by
  cases b with
  | unnamed c ws => exact Nat.add_lt_add_left c.isLt 8
  | _ => simp [FrameBody.kindCode]

theorem takeBody_unnamed (c : Fin 8) (length : Nat) :
    takeBody (8 + c.val) length rest = (takeWords length rest).bind fun r => some (.unnamed c r.1, r.2) := by
  have hkind : ∀ k < 8, 8 + c.val ≠ k := fun k hk => by omega
  have hcode : Fin.ofNat 8 (8 + c.val - 8) = c := by simp
  simp only [takeBody, hkind, if_false, hcode, Nat.reduceLT]
  rfl

/-- The body is read back whole where the length field counts the word part of a kind that has one (R83). -/
theorem takeBody_bits (b : FrameBody) {length : Nat} (h : ∀ n ∈ b.wordPart, n = length) :
    takeBody b.kindCode length (b.bits ++ rest) = some (b, rest) := by
  have hpage (p : Page) (bs : List Bool) : takeNat 12 0 (bitsOf 12 p.val ++ bs) = some (p.val, bs) :=
    takeNat_bitsOf bs p.isLt
  have hoffset (o : Offset) (bs : List Bool) : takeNat 10 0 (bitsOf 10 o.val ++ bs) = some (o.val, bs) :=
    takeNat_bitsOf bs o.isLt
  cases b with
  | readReq p o n =>
    simp [takeBody, FrameBody.kindCode, FrameBody.bits, hpage, hoffset, takeNat_bitsOf (k := 5) rest n.isLt]
  | writeReq p o items =>
    obtain rfl := h _ rfl
    simp [takeBody, FrameBody.kindCode, FrameBody.bits, hpage, hoffset, takeItems_itemBits]
  | atomicReq p o op ops =>
    obtain rfl := h _ rfl
    simp [takeBody, FrameBody.kindCode, FrameBody.bits, hpage, hoffset, takeNat_bitsOf (k := 2) _ op.isLt,
      takeWords_wordBits]
  | signal ws =>
    obtain rfl := h _ rfl
    simp [takeBody, FrameBody.kindCode, FrameBody.bits, takeWords_wordBits]
  | probe => rfl
  | response st ws =>
    obtain rfl := h _ rfl
    simp [takeBody, FrameBody.kindCode, FrameBody.bits, takeNat_bitsOf (k := 3) _ st.isLt, takeWords_wordBits]
  | announce level =>
    simp [takeBody, FrameBody.kindCode, FrameBody.bits, takeNat_bitsOf (k := 4) rest level.isLt]
  | leave => rfl
  | unnamed c ws =>
    obtain rfl := h _ rfl
    simp [takeBody_unnamed, FrameBody.kindCode, FrameBody.bits, takeWords_wordBits]

theorem RawFrame.carriable_iff (f : RawFrame) :
    f.carriable = true ↔ ∀ n ∈ f.body.wordPart, n = f.length.val := by
  unfold RawFrame.carriable
  cases f.body.wordPart <;> simp

/-- The covered bits are read back as the frame, and what follows them is left (R82, R83). -/
theorem takeFrame_coveredBits {f : RawFrame} (h : f.carriable = true) :
    takeFrame (f.coveredBits ++ rest) = some (f, rest) := by
  have hbody := takeBody_bits rest f.body (f.carriable_iff.mp h)
  simp [takeFrame, RawFrame.coveredBits, RawFrame.headerBits, takeNat_bitsOf (k := 2) _ f.cls.isLt,
    takeNat_bitsOf (k := 4) _ f.source.isLt, takeNat_bitsOf (k := 4) _ f.body.kindCode_lt,
    takeNat_bitsOf (k := 4) _ f.dest.isLt, takeNat_bitsOf (k := 4) _ f.tag.isLt, takeNat_flag,
    takeNat_bitsOf (k := 5) _ f.length.isLt, hbody]

end Fields

/-- Settles O42: the inserted bits are removed, and the covered bits are read back before the CRC that was driven. -/
theorem frameOnTheLineIsReceivedAsSent : Obligations.FrameOnTheLineIsReceivedAsSent := by
  intro f hf
  have hplain : removeBits 0 true f.lineBits = some f.plainBits := removeBits_insertBits f.plainBits 0 true
  have hread := takeFrame_coveredBits (bitsOf 16 (crc16 f.coveredBits).toNat) hf
  simp only [receiveFrame, hplain, RawFrame.plainBits, hread, if_true]

end Sys2Proof

/-! SUPPORT. The Roster and the LINK cause (R101, R102, R110, R114, R118, R167): what every operation within one link state keeps of
the records, and what the operations that change the link state set. -/

namespace Sys2Proof.Machine

/-! ## A fresh Roster (R110, R114, R118) -/

theorem freshRoster_own (own : Station) : (freshRoster own)[own] = { state := .self, count := 0 } := by simp [freshRoster]

theorem freshRoster_other {own i : Station} (h : i ≠ own) : (freshRoster own)[i] = { state := .unheard, count := 0 } := by
  simp [freshRoster, Fin.val_inj, h.symm]

/-! ## Limits and records (R101, R114) -/

/-- The three limits are within their ranges (R101). -/
def StartConfig.sound (c : StartConfig) : Prop := c.responseTimeout ≠ 0#8 ∧ c.attemptLimit ≠ 0#4 ∧ c.silentThreshold ≠ 0#3

/-- The limits are within their ranges, the own record is SELF with count 0, and every other is sound (R101, R114). -/
def MembershipUnit.sound (m : MembershipUnit) : Prop :=
  m.config.sound ∧ m.roster[m.own] = { state := .self, count := 0 } ∧
    ∀ i : Station, i ≠ m.own → (m.roster[i]).sound m.config.silentThreshold.toNat

/-- OFFLINE, with the medium not followed (R79). -/
def State.atRest (s : State) : Prop := s.membership.link = .offline ∧ s.link.phase = .idle

theorem State.rosterSound_iff {s : State} :
    s.rosterSound ↔ s.membership.sound ∧
      (s.membership.link = .offline → s.membership.roster = freshRoster s.membership.own ∧ s.link.phase = .idle) := by
  simp only [State.rosterSound, MembershipUnit.sound, StartConfig.sound, and_assoc]

theorem State.not_atRest_of_phase {s : State} (h : s.link.phase ≠ .idle) : ¬s.atRest := fun hr => h hr.2

theorem State.not_atRest_of_follows {s : State} (h : s.follows = true) : ¬s.atRest := fun hr => by
  simp [State.follows, hr.1] at h

theorem StartConfig.sound.threshold_pos {c : StartConfig} (h : c.sound) : 0 < c.silentThreshold.toNat :=
  Nat.pos_of_ne_zero fun h0 => h.2.2 (BitVec.eq_of_toNat_eq h0)

/-- A record whose count is 0 and whose state is neither SELF nor SILENT is sound (R114, R115, R116). -/
theorem RosterRecord.sound_of_zero {r : RosterState} {n : Nat} (hn : 0 < n) (hr : r ≠ .self ∧ r ≠ .silent) :
    ({ state := r, count := 0 } : RosterRecord).sound n :=
  ⟨hr.1, fun h => absurd h hr.2, fun _ => hn, fun _ => rfl⟩

/-- A record that still counts NO-ACK ends is sound below the threshold (R114, R117). -/
theorem RosterRecord.sound_of_counted {r : RosterState} {n k : Nat} (hr : r = .unheard ∨ r = .present) (hk : k < n) :
    ({ state := r, count := k } : RosterRecord).sound n := by
  obtain rfl | rfl := hr <;> exact ⟨nofun, nofun, fun _ => hk, nofun⟩

/-- A fresh Roster is sound under any limits in range. -/
theorem MembershipUnit.sound_of_fresh {m : MembershipUnit} (hc : m.config.sound) (hr : m.roster = freshRoster m.own) :
    m.sound := by
  refine ⟨hc, ?_, fun i hi => ?_⟩
  · rw [hr, freshRoster_own]
  · rw [hr, freshRoster_other hi]
    exact RosterRecord.sound_of_zero hc.threshold_pos (by decide)

/-- One record of another station is replaced by a sound one. -/
theorem MembershipUnit.sound.setRecord {m : MembershipUnit} (h : m.sound) {i : Station} (hi : i ≠ m.own) {r : RosterRecord}
    (hr : r.sound m.config.silentThreshold.toNat) : ({ m with roster := m.roster.set i r } : MembershipUnit).sound := by
  obtain ⟨hc, hown, hother⟩ := h
  have hat (j : Station) : (m.roster.set i r)[j] = if i = j then r else m.roster[j] := by
    simp only [Fin.getElem_fin, Vector.getElem_set, Fin.val_inj]
  refine ⟨hc, ?_, fun j hj => ?_⟩
  · exact (hat m.own).trans ((if_neg hi).trans hown)
  · show ((m.roster.set i r)[j]).sound _
    rw [hat j]
    split
    · exact hr
    · exact hother j hj

/-! ## Changes within one link state -/

/-- A change that leaves the link state, the own number and the LINK cause as they are, keeps limits and records sound, and in
OFFLINE, with the medium not followed, leaves the Roster and that medium alone. -/
def KeepsRoster (s t : State) : Prop :=
  t.membership.link = s.membership.link ∧ t.membership.own = s.membership.own ∧ t.interrupt = s.interrupt ∧
    (s.membership.sound → t.membership.sound) ∧
    (s.atRest → t.membership.roster = s.membership.roster ∧ t.link.phase = .idle)

namespace KeepsRoster

variable {s t u : State}

theorem refl (s : State) : KeepsRoster s s := ⟨rfl, rfl, rfl, id, fun h => ⟨rfl, h.2⟩⟩

theorem linkState (h : KeepsRoster s t) : t.membership.link = s.membership.link := h.1
theorem own (h : KeepsRoster s t) : t.membership.own = s.membership.own := h.2.1
theorem interrupt (h : KeepsRoster s t) : t.interrupt = s.interrupt := h.2.2.1
theorem sound (h : KeepsRoster s t) (hs : s.membership.sound) : t.membership.sound := h.2.2.2.1 hs
theorem roster (h : KeepsRoster s t) (hs : s.atRest) : t.membership.roster = s.membership.roster := (h.2.2.2.2 hs).1
theorem atRest (h : KeepsRoster s t) (hs : s.atRest) : t.atRest := ⟨h.linkState.trans hs.1, (h.2.2.2.2 hs).2⟩

theorem trans (h : KeepsRoster s t) (k : KeepsRoster t u) : KeepsRoster s u :=
  ⟨k.linkState.trans h.linkState, k.own.trans h.own, k.interrupt.trans h.interrupt, fun hs => k.sound (h.sound hs),
    fun hs => ⟨(k.roster (h.atRest hs)).trans (h.roster hs), (k.atRest (h.atRest hs)).2⟩⟩

/-- A choice between two states. -/
theorem either {c : Prop} [Decidable c] (h : KeepsRoster s t) (k : KeepsRoster s u) : KeepsRoster s (if c then t else u) := by
  split <;> assumption

theorem rosterSound (h : KeepsRoster s t) (hs : s.rosterSound) : t.rosterSound := by
  obtain ⟨hm, hoff⟩ := State.rosterSound_iff.mp hs
  refine State.rosterSound_iff.mpr ⟨h.sound hm, fun hl => ?_⟩
  obtain ⟨hr, hp⟩ := hoff (h.linkState.symm.trans hl)
  have hrest : s.atRest := ⟨h.linkState.symm.trans hl, hp⟩
  exact ⟨by rw [h.roster hrest, hr, h.own], (h.atRest hrest).2⟩

end KeepsRoster

section Roster

variable (s : State)

/-! ### The medium and the records of other stations -/

/-- Another medium, still not followed where it was not in OFFLINE. -/
theorem State.withLink_roster {u : LinkUnit} (h : s.atRest → u.phase = .idle) : KeepsRoster s { s with link := u } :=
  ⟨rfl, rfl, rfl, id, fun hr => ⟨rfl, h hr⟩⟩

/-- The record of another station becomes a sound one. -/
theorem State.setRoster_roster {i : Station} {r : RosterRecord} (hrest : ¬s.atRest) (hi : i ≠ s.membership.own)
    (hr : s.membership.sound → r.sound s.membership.config.silentThreshold.toNat) : KeepsRoster s (s.setRoster i r) :=
  ⟨rfl, rfl, rfl, fun h => h.setRecord hi (hr h), fun h => absurd h hrest⟩

theorem State.addEvent_roster (r : EventRecord) : KeepsRoster s (s.addEvent r) := .refl s

theorem State.hear_roster (h : ¬s.atRest) (i : Station) : KeepsRoster s (s.hear i) := by
  unfold State.hear
  split
  · exact .refl s
  · have hset : KeepsRoster s (s.setRoster i { state := .present, count := 0 }) :=
      s.setRoster_roster h ‹_› fun hs => RosterRecord.sound_of_zero hs.1.threshold_pos (by decide)
    exact .either (hset.trans (State.addEvent_roster _ _)) hset

theorem State.hearLeave_roster (h : ¬s.atRest) (i : Station) : KeepsRoster s (s.hearLeave i) := by
  unfold State.hearLeave
  split
  · exact .refl s
  · have hset : KeepsRoster s (s.setRoster i { state := .departed, count := 0 }) :=
      s.setRoster_roster h ‹_› fun hs => RosterRecord.sound_of_zero hs.1.threshold_pos (by decide)
    exact .either hset (hset.trans (State.addEvent_roster _ _))

/-- A NO-ACK end counts up to the threshold, where the station becomes SILENT (R114, R117). -/
theorem State.countNoAck_roster (h : ¬s.atRest) {i : Station} (hi : i ≠ s.membership.own) :
    KeepsRoster s (s.countNoAck i) := by
  unfold State.countNoAck
  simp only
  split
  · rename_i hst
    split
    · exact s.setRoster_roster h hi fun _ => RosterRecord.sound_of_counted hst ‹_›
    · refine (s.setRoster_roster h hi fun _ => ?_).trans (State.addEvent_roster _ _)
      exact ⟨nofun, fun _ => rfl, fun hx => absurd rfl hx, nofun⟩
  · exact .refl s

theorem State.reportNoAck_roster {e : TransEntry} (h : s.atRest → e.target = s.membership.own) :
    KeepsRoster s (s.reportNoAck e) := by
  unfold State.reportNoAck
  split
  · exact .refl s
  · rename_i hn
    rw [not_or] at hn
    exact s.countNoAck_roster (fun hr => hn.2 (h hr)) hn.2

/-! ### Operations that all blocks share -/

theorem State.checkDrain_roster : KeepsRoster s s.checkDrain := by
  obtain ⟨_, e⟩ := s.checkDrain_touches
  rw [e]
  exact .refl s

theorem State.closeFilter_roster (i : Station) (t : Tag) (b : Bool) : KeepsRoster s (s.closeFilter i t b) := by
  obtain ⟨_, e⟩ := s.closeFilter_touches i t b
  rw [e]
  exact .refl s

theorem State.purge_roster (i : Station) : KeepsRoster s (s.purge i) := .refl s

theorem State.drive_roster (code : AckCode) : KeepsRoster s (s.drive code) := s.withLink_roster fun hr => hr.2

theorem State.portRequest_roster (r : Requester) (q : Request) : KeepsRoster s (s.portRequest r q) := by
  obtain ⟨_, e⟩ := s.portRequest_touches r q
  rw [e]
  exact .refl s

theorem State.portNext_roster : KeepsRoster s s.portNext := by
  obtain ⟨_, e⟩ := s.portNext_touches
  rw [e]
  exact .refl s

theorem acceptDecision_roster (i : Station) (t : Tag) (b : Bool) (o : Offer) :
    KeepsRoster s (acceptDecision i t b o s).2 := by
  obtain ⟨_, _, _, e, -⟩ := acceptDecision_touches s i t b o
  rw [e]
  exact .refl s

/-! ### Ends of transactions and attempts -/

theorem State.deliver_roster (o : Origin) (st : Status) (data : List Word) : KeepsRoster s (s.deliver o st data) := by
  obtain ⟨_, _, _, _, e, -⟩ := s.deliver_touches o st data
  rw [e]
  exact .refl s

theorem State.endEntry_roster (t : Tag) (st : Status) (data : List Word) : KeepsRoster s (s.endEntry t st data) := by
  obtain ⟨_, _, _, _, _, e, -⟩ := s.endEntry_touches t st data
  rw [e]
  exact .refl s

theorem matchResponse_roster (i : Station) (t : Tag) (b : Bool) (st : WireStatus) (data : List Word) :
    KeepsRoster s (matchResponse i t b st data s).2 := by
  obtain ⟨_, _, _, _, _, e, -⟩ := matchResponse_touches s i t b st data
  rw [e]
  exact .refl s

/-- The NO-ACK end of an entry for another station is counted, which OFFLINE has none of (R66, R71). -/
theorem State.endNoAck_roster (t : Tag) {e : TransEntry} (h : s.atRest → e.target = s.membership.own) :
    KeepsRoster s ((s.endEntry t .noAck []).reportNoAck e) := by
  obtain ⟨_, _, _, _, _, he, -⟩ := s.endEntry_touches t .noAck []
  rw [he]
  exact State.reportNoAck_roster _ h

theorem State.afterAttempt_roster {t : Tag} (h : s.atRest → ∀ e, s.entryAt t = some e → e.target = s.membership.own)
    (code : AckCode) : KeepsRoster s (s.afterAttempt t code) := by
  have ends (st : Status) : KeepsRoster s (s.endEntry t st []) := s.endEntry_roster t st []
  unfold State.afterAttempt
  split
  · exact .refl s
  · rename_i e he
    cases code with
    | accept => exact .either (.refl s) (ends _)
    | refuse => exact ends _
    | stale => exact ends _
    | busy => exact .either (.refl s) (ends _)
    | nothing => exact .either (.refl s) (s.endNoAck_roster t fun hr => h hr e he)

/-! ### Presentations -/

theorem State.loopbackAnswer_roster (t : Tag) (e : TransEntry) : KeepsRoster s (s.loopbackAnswer t e).2 := by
  unfold State.loopbackAnswer
  split
  · split
    · exact acceptDecision_roster s _ _ _ _
    · exact .refl s
  · exact .refl s

/-- A loopback entry is presented, and what ends it is not counted (R71). -/
theorem State.presentLoopback_roster {t : Tag} (h : ∀ e, s.entryAt t = some e → e.target = s.membership.own) :
    KeepsRoster s (s.presentLoopback t) := by
  unfold State.presentLoopback
  split
  · exact .refl s
  · rename_i e he
    have hset : KeepsRoster s (s.setEntry t { e with state := .onAir }) := .refl s
    have hans := State.loopbackAnswer_roster (s.setEntry t { e with state := .onAir }) t e
    obtain ⟨hob, -⟩ := State.loopbackAnswer_frame (s.setEntry t { e with state := .onAir }) t e
    refine (hset.trans hans).trans (State.afterAttempt_roster _ (fun _ f hf => ?_) _)
    rw [State.entryAt, hob] at hf
    have hf : ((s.outbound.table.set t (some { e with state := .onAir }))[t]) = some f := hf
    rw [table_set_at, if_pos rfl] at hf
    cases hf
    exact (h e he).trans (hset.trans hans).own.symm

theorem State.take_roster (o : Origin) : KeepsRoster s (s.take o) := by
  cases o with
  | apertureRead =>
    simp only [State.take]
    split <;> exact .refl s
  | posted p => exact .refl s
  | slot k => exact .refl s

theorem State.allocate_roster (o : Origin) (target : Station) (body : TransBody) :
    KeepsRoster s (s.allocate o target body) := by
  unfold State.allocate
  split
  · exact .refl s
  · rename_i t _
    have hob (ob : Outbound) : KeepsRoster s { s.take o with outbound := ob } := s.take_roster o
    obtain ⟨-, -, hmem⟩ := s.take_frame o
    simp only
    split
    · rename_i hown
      refine (hob _).trans (State.presentLoopback_roster _ fun e he => ?_)
      rw [State.entryAt, table_set_at, if_pos rfl] at he
      cases he
      rw [hmem]
      exact of_decide_eq_true hown
    · exact hob _

theorem State.present_roster (o : Origin) (target : Station) (body : TransBody) : KeepsRoster s (s.present o target body) := by
  unfold State.present
  split
  · exact s.deliver_roster _ _ _
  · exact s.allocate_roster _ _ _

theorem State.presentSlot_roster (k : SlotNo) : KeepsRoster s (s.presentSlot k) := by
  unfold State.presentSlot
  split
  · exact s.present_roster _ _ _
  · exact .refl s

theorem State.presentLoad_roster : KeepsRoster s s.presentLoad := by
  unfold State.presentLoad
  split
  · exact .either (s.present_roster _ _ _) (.refl s)
  · exact .refl s

theorem State.presentPosted_roster (e : PostedEntry) : KeepsRoster s (s.presentPosted e) := s.present_roster _ _ _

theorem State.appendPosted_roster (st : HeldStore) : KeepsRoster s (s.appendPosted st) := by
  have happ (es : List PostedEntry) : KeepsRoster s { s with aperture := { s.aperture with posted := es } } := .refl s
  exact .either ((happ _).trans (State.presentPosted_roster _ _)) (happ _)

theorem State.placeStore_roster (st : HeldStore) : KeepsRoster s (s.placeStore st) := by
  have hrel : KeepsRoster s (s.releaseHost .done) := .refl s
  unfold State.placeStore
  split
  · exact .refl s
  · exact .either (hrel.trans (State.appendPosted_roster _ st)) (.refl s)

theorem State.endHeldStore_roster : KeepsRoster s s.endHeldStore := by
  unfold State.endHeldStore
  split
  · exact .either (.refl s) (.either (s.placeStore_roster _) (.refl s))
  · exact .refl s

theorem State.completeFence_roster : KeepsRoster s s.completeFence := .refl s

theorem State.followOnce_roster {s u : State} (h : s.followOnce = some u) : KeepsRoster s u := by
  unfold State.followOnce at h
  split at h
  · cases h
    exact s.presentPosted_roster _
  split at h
  · cases h
    exact s.endHeldStore_roster
  split at h
  · cases h
    exact s.presentLoad_roster
  split at h
  · cases h
    exact s.presentSlot_roster _
  split at h
  · cases h
    exact s.completeFence_roster
  · cases h

theorem State.followOns_roster (n : Nat) : ∀ s : State, KeepsRoster s (s.followOns n) := by
  induction n with
  | zero => exact fun s => .refl s
  | succ n ih =>
    intro s
    unfold State.followOns
    split
    · exact (State.followOnce_roster ‹_›).trans (ih _)
    · exact .refl s

theorem State.followThrough_roster : KeepsRoster s s.followThrough :=
  (State.followOns_roster _ s).trans (State.checkDrain_roster _)

theorem State.presentPlace_roster (p : Place) : KeepsRoster s (s.presentPlace p) := by
  unfold State.presentPlace
  split
  · rename_i e _
    have hp := s.presentPosted_roster e
    exact .either (.either (hp.trans (State.followThrough_roster _)) hp) (.refl s)
  · exact .refl s

/-! ### The Inbound Engine and the Memory Port -/

theorem State.loopbackReply_roster (e : ListEntry) (st : WireStatus) (data : List Word) :
    KeepsRoster s (s.loopbackReply e st data) := by
  have hm : KeepsRoster s (matchResponse e.source e.tag e.issue st data s).2.removeExecuting :=
    matchResponse_roster s _ _ _ st data
  exact (hm.trans (State.closeFilter_roster _ _ _ _)).trans (State.followThrough_roster _)

theorem State.endExecution_roster (st : WireStatus) (data : List Word) : KeepsRoster s (s.endExecution st data) := by
  unfold State.endExecution
  split
  · exact .refl s
  · rename_i e _
    have hev : KeepsRoster s (if st = .ok then s else s.addEvent (.rejected e st)) :=
      .either (.refl s) (s.addEvent_roster _)
    simp only
    generalize (if st = .ok then s else s.addEvent (.rejected e st)) = u at hev
    have hremoved : KeepsRoster u u.removeExecuting := .refl u
    exact hev.trans (.either (hremoved.trans (State.checkDrain_roster _))
      (.either (u.loopbackReply_roster e st data) (.refl u)))

theorem State.translated_roster (m : MapEntry) : KeepsRoster s (s.translated m) := by
  unfold State.translated
  split
  · exact .refl s
  · rename_i e _
    have hup : KeepsRoster s (s.updateExecuting fun g => { g with localAddr := some (localAddress m e.offset) }) := .refl s
    refine .either (s.endExecution_roster _ _) ?_
    simp only
    split
    · exact hup.trans (State.endExecution_roster _ _ _)
    · exact hup.trans (State.portRequest_roster _ _ _)

theorem State.lookup_roster (p : Page) : KeepsRoster s (s.lookup p) := by
  have hm (m : WindowMap) : KeepsRoster s { s with map := m } := .refl s
  unfold State.lookup
  split
  · exact (hm _).trans (State.translated_roster _ _)
  · exact (hm _).trans (State.portRequest_roster _ _ _)

theorem State.startExecution_roster : KeepsRoster s s.startExecution := by
  have hi (u : Inbound) : KeepsRoster s { s with inbound := u } := .refl s
  unfold State.startExecution
  split
  · exact .refl s
  · simp only
    split
    · exact hi _
    · exact (hi _).trans (.either (State.endExecution_roster _ _ _) (State.lookup_roster _ _))

theorem State.fillEnded_roster (r : ReadResult) : KeepsRoster s (s.fillEnded r) := by
  have hm (m : WindowMap) : KeepsRoster s { s with map := m } := .refl s
  unfold State.fillEnded
  split
  · exact .refl s
  · exact .either ((hm _).trans (State.portRequest_roster _ _ _)) (.either ((hm _).trans (State.translated_roster _ _))
      ((hm _).trans (State.endExecution_roster _ _ _)))

theorem State.dataEnded_roster (r : ReadResult) : KeepsRoster s (s.dataEnded r) :=
  .either (s.endExecution_roster _ _) (s.endExecution_roster _ _)

theorem State.discardEnded_roster (c : Cycle) : KeepsRoster s (s.discardEnded c) := by
  have hr : KeepsRoster s s.removeExecuting := .refl s
  exact .either (hr.trans (State.checkDrain_roster _)) (.refl s)

theorem State.updateEnded_roster (c : Cycle) (r : ReadResult) : KeepsRoster s (s.updateEnded c r) := by
  unfold State.updateEnded
  split
  · exact .either (.refl s) (.refl s)
  · exact .refl s

theorem State.maintReadEnded_roster (c : Cycle) (r : ReadResult) : KeepsRoster s (s.maintReadEnded c r) :=
  .either (.refl s) (.refl s)

theorem State.handOver_roster (c : Cycle) (r : ReadResult) {f : ReadResult → State → State}
    (hf : ∀ u, KeepsRoster u (f r u)) : KeepsRoster s (s.handOver c r f) := by
  have hm : KeepsRoster s { s with memory := r.memory } := .refl s
  exact (hm.trans (.either (hf _) (State.discardEnded_roster _ c))).trans (State.portNext_roster _)

theorem State.endCycle_roster (meant : Cycle → Bool) (ts : List Transfer) {f : Cycle → ReadResult → State → State}
    (hf : ∀ c r u, KeepsRoster u (f c r u)) : KeepsRoster s (s.endCycle meant ts f) := by
  unfold State.endCycle
  split
  · exact .either (s.handOver_roster _ _ (hf _ _)) (.refl s)
  · exact .refl s

theorem State.endReadPhase_roster (c : Cycle) (op : AtomicOp) (t : Transfer) : KeepsRoster s (s.endReadPhase c op t) :=
  .either (.refl s) (s.handOver_roster c _ fun u => u.dataEnded_roster _)

/-! ### Frames sent -/

theorem State.removeReply_roster (i : Station) (t : Tag) : KeepsRoster s (s.removeReply i t) := by
  have hi (u : Inbound) : KeepsRoster s { s with inbound := u } := .refl s
  unfold State.removeReply
  split
  · exact .refl s
  · exact ((hi _).trans (State.closeFilter_roster _ _ _ _)).trans (State.checkDrain_roster _)

theorem State.failReply_roster (i : Station) (t : Tag) : KeepsRoster s (s.failReply i t) := by
  unfold State.failReply
  split
  · exact .refl s
  · exact .either (.refl s) ((s.removeReply_roster i t).trans (State.addEvent_roster _ _))

theorem State.goOnAir_roster (o : TxOwner) : KeepsRoster s (s.goOnAir o) := by
  cases o with
  | reply i t => exact .refl s
  | transaction t =>
    simp only [State.goOnAir, State.setTransState]
    split <;> exact .refl s
  | announce => exact .refl s
  | leave => exact .refl s

/-- A frame starts only where the medium is followed (R79, R91). -/
theorem State.transmit_roster : KeepsRoster s s.transmit := by
  unfold State.transmit
  split
  · rename_i hf
    have hl : s.membership.link ≠ .offline := (State.follows_iff.mp (Bool.and_eq_true_iff.mp hf).1).2
    have hi : KeepsRoster s { s with link := s.link.idleFor Config.interFrameGap } := s.withLink_roster fun _ => rfl
    simp only
    split
    · rename_i tx _
      have hair := hi.trans (State.goOnAir_roster _ tx.owner)
      exact hair.trans (State.withLink_roster _ fun hr => absurd (hair.linkState.symm.trans hr.1) hl)
    · exact hi
  · exact .refl s

theorem State.becomeListener_roster (h : ¬s.atRest) : KeepsRoster s s.becomeListener :=
  s.withLink_roster fun hr => absurd hr h

theorem State.handBack_roster (o : TxOwner) : KeepsRoster s (s.handBack o) := by
  cases o with
  | reply i t => exact .refl s
  | transaction t =>
    simp only [State.handBack]
    split
    · exact .refl s
    · exact .either ((s.endEntry_roster t _ _).trans (State.followThrough_roster _)) (.refl s)
  | announce => exact .refl s
  | leave => exact .refl s

theorem State.abortFrame_roster (h : ¬s.atRest) (o : TxOwner) : KeepsRoster s (s.abortFrame o) := by
  cases o with
  | reply i t => exact s.failReply_roster i t
  | transaction t => exact (s.afterAttempt_roster (fun hr => absurd hr h) _).trans (State.followThrough_roster _)
  | announce => exact .refl s
  | leave => exact .refl s

theorem State.afterSlot_roster (h : ¬s.atRest) (b : Bool) : KeepsRoster s (s.afterSlot b) :=
  s.withLink_roster fun hr => absurd hr h

theorem State.afterSlot_not_atRest (b : Bool) : ¬(s.afterSlot b).atRest := State.not_atRest_of_phase nofun

theorem State.hearAnswer_roster (h : ¬s.atRest) (i : Station) (code : AckCode) : KeepsRoster s (s.hearAnswer i code) :=
  .either (.refl s) (s.hear_roster h i)

theorem State.hearAnswer_not_atRest (h : ¬s.atRest) (i : Station) (code : AckCode) : ¬(s.hearAnswer i code).atRest := by
  obtain ⟨_, _, e⟩ := State.hearAnswer_touches i code s
  rw [e]
  exact h

/-- The slot of the own frame is read: the destination is heard by its code (R93, R115). -/
theorem State.slotRead_roster (h : ¬s.atRest) (b : Bool) (i : Station) (code : AckCode) :
    KeepsRoster s ((s.afterSlot b).hearAnswer i code) :=
  (s.afterSlot_roster h b).trans (State.hearAnswer_roster _ (s.afterSlot_not_atRest b) i code)

theorem State.requestAnswered_roster (h : ¬s.atRest) (t : Tag) (i : Station) (code : AckCode) :
    KeepsRoster s (s.requestAnswered t i code) := by
  have hn := State.hearAnswer_not_atRest _ (s.afterSlot_not_atRest true) i code
  exact ((s.slotRead_roster h true i code).trans (State.afterAttempt_roster _ (fun hr => absurd hr hn) code)).trans
    (State.followThrough_roster _)

theorem State.replyAnswered_roster (h : ¬s.atRest) (i : Station) (t : Tag) (code : AckCode) :
    KeepsRoster s (s.replyAnswered i t code) := by
  have hr := s.slotRead_roster h false i code
  by_cases hc : code = .accept ∨ code = .stale
  · rw [State.replyAnswered_ends hc]
    exact hr.trans (State.removeReply_roster _ i t)
  · rw [State.replyAnswered_fails hc]
    exact hr.trans (State.failReply_roster _ i t)

theorem State.afterDelimiter_roster : KeepsRoster s s.afterDelimiter := s.withLink_roster fun _ => rfl

/-! ### Intervals and the medium -/

theorem State.endBackoff_roster (t : Tag) : KeepsRoster s (s.endBackoff t) := by
  unfold State.endBackoff
  split
  · exact .either (.refl s) (.refl s)
  · exact .refl s

theorem State.endLoopbackBackoff_roster (t : Tag) : KeepsRoster s (s.endLoopbackBackoff t) := by
  unfold State.endLoopbackBackoff
  split
  · rename_i e he
    split
    · rename_i hb
      refine (s.presentLoopback_roster fun f hf => ?_).trans (State.followThrough_roster _)
      cases he.symm.trans hf
      exact hb.2
    · exact .refl s
  · exact .refl s

theorem State.endReplyBackoff_roster (i : Station) (t : Tag) : KeepsRoster s (s.endReplyBackoff i t) := by
  unfold State.endReplyBackoff
  split <;> exact .refl s

theorem State.timeOut_roster (t : Tag) : KeepsRoster s (s.timeOut t) := by
  unfold State.timeOut
  split
  · exact .either ((s.endEntry_roster t _ _).trans (State.followThrough_roster _)) (.refl s)
  · exact .refl s

/-- What happens on a medium that the station follows (R79). -/
theorem State.followed_roster {b : Bool} {u : LinkUnit} :
    KeepsRoster s (if s.follows && b then { s with link := u } else s) := by
  split
  · rename_i hf
    exact s.withLink_roster fun hr => absurd hr (State.not_atRest_of_follows (Bool.and_eq_true_iff.mp hf).1)
  · exact .refl s

theorem State.endRound_roster : KeepsRoster s s.endRound := s.followed_roster

theorem State.startSeen_roster : KeepsRoster s s.startSeen := s.followed_roster

theorem State.dropFrame_roster (n : Nat) : KeepsRoster s (s.dropFrame n) := s.followed_roster

theorem State.endSync_roster : KeepsRoster s s.endSync := by
  unfold State.endSync
  split
  · exact s.withLink_roster fun _ => rfl
  · exact .refl s

theorem State.strayBit_roster : KeepsRoster s s.strayBit := by
  unfold State.strayBit
  split
  · rename_i hp
    exact s.withLink_roster fun hr => absurd (hp.symm.trans hr.2) nofun
  · exact s.followed_roster

theorem State.endSlotAfterReset_roster : KeepsRoster s s.endSlotAfterReset := by
  unfold State.endSlotAfterReset
  split
  · exact .refl s
  · exact .either (s.withLink_roster fun _ => rfl) (s.withLink_roster fun hr => hr.2)

theorem State.tick_roster : KeepsRoster s s.tick := by
  have hlink : KeepsRoster s { s with link := (if s.follows then s.link.tick else s.link).tickSlot } :=
    s.withLink_roster fun hr => by
      rw [if_neg fun hf => State.not_atRest_of_follows hf hr]
      exact hr.2
  unfold State.tick
  split
  · exact .refl s
  · exact hlink

/-! ### Frames heard -/

theorem State.decideOffer_roster (h : ¬s.atRest) (i : Station) (t : Tag) (b : Bool) (o : Offer) :
    KeepsRoster s (s.decideOffer i t b o) := by
  have hh := s.hear_roster h i
  exact .either ((hh.trans (acceptDecision_roster _ i t b o)).trans (State.drive_roster _ _)) hh

theorem State.answer_roster (h : ¬s.atRest) (i : Station) (t : Tag) (b : Bool) (st : WireStatus) (data : List Word) :
    KeepsRoster s (s.answer i t b st data) := by
  have hh := s.hear_roster h i
  have hm := hh.trans (matchResponse_roster _ i t b st data)
  exact .either ((hm.trans (State.drive_roster _ _)).trans (State.followThrough_roster _)) hh

/-! ### Host accesses -/

theorem State.setMapBase_roster (w : Word) : KeepsRoster s (s.setMapBase w) := .either (.refl s) (.refl s)

theorem State.writeMaint_roster (r : MaintRegister) (w : Word) : KeepsRoster s (s.writeMaint r w) :=
  .either (.refl s) (.refl s)

theorem State.maintBusy_roster (b : MaintState) (q : Request) :
    KeepsRoster s (({ s with map := { s.map with maint := { s.map.maint with state := b } } } : State).portRequest
      .maintenance q) := by
  have hm : KeepsRoster s { s with map := { s.map with maint := { s.map.maint with state := b } } } := .refl s
  exact hm.trans (State.portRequest_roster _ _ _)

theorem State.takeUpdate_roster : KeepsRoster s s.takeUpdate := .either (s.maintBusy_roster _ _) (.refl s)

theorem State.takeRead_roster : KeepsRoster s s.takeRead := .either (s.maintBusy_roster _ _) (.refl s)

theorem State.takeInvalidate_roster : KeepsRoster s s.takeInvalidate := .either (.refl s) (.refl s)

theorem State.maintCommand_roster (w : Word) : KeepsRoster s (s.maintCommand w) :=
  .either s.takeUpdate_roster (.either s.takeRead_roster (.either s.takeInvalidate_roster (.refl s)))

theorem State.writeSlot_roster (k : SlotNo) (r : SlotRegister) (w : Word) : KeepsRoster s (s.writeSlot k r w) :=
  .either (.refl s) (.refl s)

theorem State.goSlot_roster (k : SlotNo) : KeepsRoster s (s.goSlot k) := by
  have hset (sl : Slot) : KeepsRoster s (s.setSlot k sl) := .refl s
  unfold State.goSlot
  split
  · exact .refl s
  · simp only
    split
    · exact hset _
    · exact .either ((hset _).trans (State.presentSlot_roster _ k)) (hset _)

theorem State.releaseSlot_roster (k : SlotNo) : KeepsRoster s (s.releaseSlot k) :=
  .either (.refl s) (.either (.refl s) (.refl s))

theorem State.cancelEntry_roster (k : SlotNo) (t : Tag) : KeepsRoster s (s.cancelEntry k t) := by
  have hend : KeepsRoster s (s.endEntry t .cancelled []).followThrough :=
    (s.endEntry_roster t _ _).trans (State.followThrough_roster _)
  unfold State.cancelEntry
  split
  · exact .refl s
  · split
    · exact hend
    · exact hend
    · exact .refl s
    · exact .refl s

theorem State.cancelSlot_roster (k : SlotNo) : KeepsRoster s (s.cancelSlot k) := by
  unfold State.cancelSlot
  split
  · exact .refl s
  · exact .refl s
  · exact .refl s
  · split
    · exact s.cancelEntry_roster k _
    · exact .refl s

theorem State.slotCommand_roster (k : SlotNo) (w : Word) : KeepsRoster s (s.slotCommand k w) :=
  .either (s.goSlot_roster k) (.either (s.releaseSlot_roster k) (.either (s.cancelSlot_roster k) (.refl s)))

theorem State.storeAccess_roster (a : BitVec 18) (size : AccessSize) (data : Word) :
    KeepsRoster s (s.storeAccess a size data) := by
  unfold State.storeAccess
  split
  · exact .refl s
  · split
    · exact .refl s
    · exact s.placeStore_roster _

theorem State.loadAccess_roster (a : BitVec 18) (size : AccessSize) : KeepsRoster s (s.loadAccess a size) := by
  have hold (x : HeldAccess) : KeepsRoster s (s.holdHost x) := .refl s
  unfold State.loadAccess
  split
  · exact .refl s
  · split
    · exact .refl s
    · exact (hold _).trans (State.presentLoad_roster _)

theorem State.readFence_roster : KeepsRoster s s.readFence := .either (.refl s) (.refl s)

theorem State.writeSlotRegister_roster (k : SlotNo) (offset : Nat) (w : Word) :
    KeepsRoster s (s.writeSlotRegister k offset w) := by
  refine .either (s.slotCommand_roster k w) ?_
  split
  · exact s.writeSlot_roster k _ w
  · exact .refl s

/-! ### The RESET pin without a reset, and what CONFLICT ends -/

theorem State.assertReset_roster (landed : List Bool) : KeepsRoster s (s.assertReset landed) := by
  have hcut : KeepsRoster s { s with link := s.link.cutOff } := s.withLink_roster fun hr => by
    simp only [LinkUnit.cutOff, hr.2]
  exact hcut

theorem State.notReset_roster : KeepsRoster s s.notReset := by
  have hpins : KeepsRoster s { s with
      pins := { s.pins with resetLow := false }, host := { s.host with startup := some Config.hostStartup } } := .refl s
  exact hpins.trans (State.portNext_roster _)

theorem State.failAllPosted_roster : KeepsRoster s s.failAllPosted := by
  have fold (es : List PostedEntry) : ∀ u : State, KeepsRoster u (es.foldl (fun u e => u.failPosted e .linkDown) u) := by
    induction es with
    | nil => exact fun u => .refl u
    | cons e es ih =>
      intro u
      have hfail : KeepsRoster u (u.failPosted e .linkDown) := .refl u
      exact hfail.trans (ih _)
  exact fold _ { s with aperture := { s.aperture with posted := [] } }

theorem State.endHeldAtConflict_roster : KeepsRoster s s.endHeldAtConflict := by
  unfold State.endHeldAtConflict
  split
  · exact s.deliver_roster .apertureRead _ _
  · exact .refl s
  · exact .refl s
  · exact .refl s

end Roster

/-! ## Changes of the link state -/

/-- A change that, where it changes the link state, leaves the LINK cause set (R102, R167), and that keeps the Roster sound. -/
def KeepsMembership (s t : State) : Prop :=
  (t.membership.link = s.membership.link ∨ t.interrupt.linkCause = true) ∧ (s.rosterSound → t.rosterSound)

theorem KeepsRoster.membership {s t : State} (h : KeepsRoster s t) : KeepsMembership s t :=
  ⟨.inl h.linkState, h.rosterSound⟩

namespace KeepsMembership

variable {s t u : State}

theorem refl (s : State) : KeepsMembership s s := (KeepsRoster.refl s).membership

theorem after (h : KeepsRoster s t) (k : KeepsMembership t u) : KeepsMembership s u :=
  ⟨k.1.imp_left fun hl => hl.trans h.linkState, fun hs => k.2 (h.rosterSound hs)⟩

theorem thenRoster (h : KeepsMembership s t) (k : KeepsRoster t u) : KeepsMembership s u :=
  ⟨h.1.imp (fun hl => k.linkState.trans hl) (fun hc => (congrArg _ k.interrupt).trans hc), fun hs => k.rosterSound (h.2 hs)⟩

/-- A choice between two states, the first under its condition. -/
theorem when {c : Prop} [Decidable c] (h : c → KeepsMembership s t) (k : KeepsMembership s u) :
    KeepsMembership s (if c then t else u) := by
  split
  · exact h ‹_›
  · exact k

/-- A choice between two states. -/
theorem either {c : Prop} [Decidable c] (h : KeepsMembership s t) (k : KeepsMembership s u) :
    KeepsMembership s (if c then t else u) := .when (fun _ => h) k

end KeepsMembership

section LinkStates

variable (s : State)

theorem State.setLink_cause (l : LinkState) : l = s.membership.link ∨ (s.setLink l).interrupt.linkCause = true := by
  by_cases h : s.membership.link = l
  · exact .inl h.symm
  · rw [State.setLink_changed h]
    exact .inr rfl

/-- A change of the link state to any but OFFLINE (R102). -/
theorem State.setLink_membership {l : LinkState} (hl : l ≠ .offline) : KeepsMembership s (s.setLink l) := by
  have hc := s.setLink_cause l
  obtain ⟨b, e⟩ := s.setLink_touches l
  rw [e] at hc ⊢
  refine ⟨hc, fun hs => ?_⟩
  have hm : s.membership.sound := (State.rosterSound_iff.mp hs).1
  exact State.rosterSound_iff.mpr ⟨hm, fun h => absurd h hl⟩

/-- OFFLINE is reached by leave with a fresh Roster (R107, R110). -/
theorem State.offlineByLeave_membership : KeepsMembership s s.offlineByLeave := by
  have hc := s.setLink_cause .offline
  obtain ⟨b, e⟩ := s.setLink_touches .offline
  unfold State.offlineByLeave
  rw [e] at hc ⊢
  refine ⟨hc, fun hs => ?_⟩
  exact State.rosterSound_iff.mpr
    ⟨MembershipUnit.sound_of_fresh (State.rosterSound_iff.mp hs).1.1 rfl, fun _ => ⟨rfl, rfl⟩⟩

/-- JOIN in OFFLINE makes the Roster of its number fresh (R103). -/
theorem State.joinLink_membership (stn : Station) (rate : BitVec 2) : KeepsMembership s (s.joinLink stn rate) := by
  have hc := s.setLink_cause .listening
  obtain ⟨b, e⟩ := s.setLink_touches .listening
  unfold State.joinLink
  rw [e] at hc ⊢
  refine ⟨hc, fun hs => ?_⟩
  exact State.rosterSound_iff.mpr ⟨MembershipUnit.sound_of_fresh (State.rosterSound_iff.mp hs).1.1 rfl, nofun⟩

theorem State.leaveLink_membership : KeepsMembership s s.leaveLink := by
  unfold State.leaveLink
  split
  · exact .refl s
  · exact .refl s
  · exact s.offlineByLeave_membership
  · exact s.offlineByLeave_membership
  · exact s.offlineByLeave_membership
  · exact (s.setLink_membership (l := .draining) nofun).thenRoster (State.checkDrain_roster _)

theorem State.joinOrLeave_membership (stn : Station) (rate : BitVec 2) (b : Bool) :
    KeepsMembership s (s.joinOrLeave stn rate b) :=
  .either (s.joinLink_membership stn rate) (.either s.leaveLink_membership (.refl s))

theorem State.enterConflict_membership : KeepsMembership s s.enterConflict := by
  unfold State.enterConflict
  split
  · exact .refl s
  · exact .refl s
  · refine ((KeepsMembership.thenRoster (s.setLink_membership (l := .conflict) nofun) ?_).thenRoster
      (State.failAllPosted_roster _)).thenRoster (State.endHeldAtConflict_roster _)
    exact ⟨rfl, rfl, rfl, id, fun hr => ⟨rfl, hr.2⟩⟩

theorem State.afterFrame_not_atRest : ¬s.afterFrame.atRest := State.not_atRest_of_phase nofun

/-- What is heard comes on a medium that the station follows (R79, R95, R96). -/
theorem State.heard_membership (i : Station) {f : State → State} (hf : ∀ u : State, ¬u.atRest → KeepsRoster u (f u)) :
    KeepsMembership s (s.heard i f) := by
  unfold State.heard
  split
  · rename_i hfollows
    have hn := State.not_atRest_of_follows (Bool.and_eq_true_iff.mp hfollows).1
    have hcrc : KeepsRoster s { s with link := s.link.afterCrc } := s.withLink_roster fun hr => absurd hr hn
    exact .after hcrc (.either (State.enterConflict_membership _) (hf _ s.afterFrame_not_atRest).membership)
  · exact .refl s

theorem State.endListen_membership : KeepsMembership s s.endListen := by
  unfold State.endListen
  split
  · refine (s.setLink_membership (l := .announcing) nofun).thenRoster ?_
    exact ⟨rfl, rfl, rfl, id, fun _ => ⟨rfl, rfl⟩⟩
  · exact .refl s

theorem State.announced_membership : KeepsMembership s s.announced := by
  have ha : KeepsRoster s { s.afterDelimiter with
      membership := { s.afterDelimiter.membership with announcePending := false } } := s.afterDelimiter_roster
  exact .either (.after ha (State.setLink_membership _ (l := .online) (by decide))) s.afterDelimiter_roster.membership

theorem State.left_membership : KeepsMembership s s.left :=
  .either s.offlineByLeave_membership s.afterDelimiter_roster.membership

/-! ### Limits, CONTROL and the registers -/

theorem keepIfZero_ne_zero {n : Nat} {new old : BitVec n} (h : old ≠ 0#n) : keepIfZero new old ≠ 0#n := by
  unfold keepIfZero
  split <;> assumption

theorem StartConfig.sound.withLimits {c : StartConfig} (h : c.sound) (w : Word) : (c.withLimits w).sound := by
  obtain ⟨ht, ha, hs⟩ := h
  exact ⟨keepIfZero_ne_zero ht, keepIfZero_ne_zero ha, keepIfZero_ne_zero hs⟩

/-- The limits change in OFFLINE alone, where the Roster is fresh and so sound under any (R101, R110). -/
theorem State.setLimits_membership (w : Word) : KeepsMembership s (s.setLimits w) := by
  by_cases hl : s.membership.link = .offline
  · rw [State.setLimits_offline hl]
    refine ⟨.inl rfl, fun hs => ?_⟩
    obtain ⟨hm, hoff⟩ := State.rosterSound_iff.mp hs
    exact State.rosterSound_iff.mpr ⟨MembershipUnit.sound_of_fresh (hm.1.withLimits w) (hoff hl).1, hoff⟩
  · rw [State.setLimits_other hl]
    exact .refl s

theorem State.clearLinkCause_membership (w : Word) : KeepsMembership s (s.clearLinkCause w) := by
  unfold State.clearLinkCause
  split
  · exact ⟨.inl rfl, id⟩
  · exact .refl s

theorem State.writeControl_membership {w : Word} (h : w.getLsbD 2 = false) : KeepsMembership s (s.writeControl w) := by
  have he : KeepsRoster s (s.setEnable (w.getLsbD 8)) := .refl s
  unfold State.writeControl
  rw [if_neg (by rw [h]; decide)]
  exact .after he (.either (State.joinOrLeave_membership _ _ _ _) (.either (State.leaveLink_membership _) (.refl _)))

/-- Every register, a SOFT-RESET written to CONTROL left out. -/
theorem State.writeRegister_membership {offset : BitVec 12} {w : Word} (h : offset = 0x004#12 → w.getLsbD 2 = false) :
    KeepsMembership s (s.writeRegister offset w) := by
  have hm {t : State} (h : KeepsRoster s t) := h.membership
  exact .when (fun ha => s.writeControl_membership (h (BitVec.eq_of_toNat_eq ha))) (.either (s.setLimits_membership w)
    (.either (hm (s.setMapBase_roster w)) (.either (s.clearLinkCause_membership w) (.either ⟨.inl rfl, id⟩
    (.either (.refl s) (.either (.refl s) (.either (hm (s.writeMaint_roster _ w)) (.either (hm (s.writeMaint_roster _ w))
    (.either (hm (s.writeMaint_roster _ w)) (.either (hm (s.maintCommand_roster w)) (.either (.refl s)
    (.either (hm (s.writeSlotRegister_roster _ _ w)) (.refl s)))))))))))))

/-! ### The resets -/

theorem State.softReset_rosterSound {s : State} (h : s.rosterSound) (b : Bool) : (s.softReset b).rosterSound :=
  State.rosterSound_iff.mpr
    ⟨MembershipUnit.sound_of_fresh (State.rosterSound_iff.mp h).1.1 rfl, fun _ => ⟨rfl, rfl⟩⟩

theorem StartConfig.initial_sound : StartConfig.initial.sound := ⟨by decide, by decide, by decide⟩

theorem State.powerOn_rosterSound : s.powerOn.rosterSound :=
  State.rosterSound_iff.mpr ⟨MembershipUnit.sound_of_fresh StartConfig.initial_sound rfl, fun _ => ⟨rfl, rfl⟩⟩

end LinkStates

/-! ## Commands and steps -/

/-- The two resets, and a word written to CONTROL with SOFT-RESET (R171, R172, R178). -/
def isReset (c : Instr) : Prop :=
  (∃ b, c = .softReset b) ∨ (∃ p, c = .resetReleased p) ∨ ∃ o v, c = .registerWrite o v ∧ o = 0x004#12 ∧ v.getLsbD 2 = true

section Commands

variable {s : State} {f : State → State}

theorem running_membership (hf : KeepsMembership s (f s)) : Answers (KeepsMembership s) (running s f) := by
  unfold running
  split
  · exact .next (.refl s)
  · exact .next hf

theorem running_roster (hf : KeepsRoster s (f s)) : Answers (KeepsMembership s) (running s f) :=
  running_membership hf.membership

theorem hostAccess_membership {c : Instr} (hf : KeepsMembership s (f s)) :
    Answers (KeepsMembership s) (hostAccess c s f) := by
  unfold hostAccess
  split
  · exact .next (KeepsRoster.refl s).membership
  · exact .next hf

theorem hostAccess_roster {c : Instr} (hf : KeepsRoster s (f s)) : Answers (KeepsMembership s) (hostAccess c s f) :=
  hostAccess_membership hf.membership

theorem hostWrite_membership {c : Instr} (hf : ∀ u, KeepsMembership u (f u)) :
    Answers (KeepsMembership s) (hostWrite c s f) := by
  have ha : KeepsRoster s (s.answerHost .done) := .refl s
  exact hostAccess_membership (f := fun u => f (u.answerHost .done)) (.after ha (hf _))

theorem hostWrite_roster {c : Instr} (hf : ∀ u, KeepsRoster u (f u)) : Answers (KeepsMembership s) (hostWrite c s f) :=
  hostWrite_membership fun u => (hf u).membership

theorem State.not_atRest_of_onAir {tx : Transmission} (h : s.onAir = some tx) : ¬s.atRest :=
  State.not_atRest_of_phase fun hp => absurd ((State.onAir_phase h).symm.trans hp) nofun

theorem State.becomeListener_not_atRest : ¬s.becomeListener.atRest := State.not_atRest_of_phase nofun

theorem execArbitrationLost_membership : Answers (KeepsMembership s) (execArbitrationLost s) := by
  refine running_roster ?_
  split
  · exact (s.becomeListener_roster (State.not_atRest_of_onAir ‹_›)).trans (State.handBack_roster _ _)
  · exact .refl s

theorem execReadbackAbort_membership : Answers (KeepsMembership s) (execReadbackAbort s) := by
  refine running_roster ?_
  split
  · exact (s.becomeListener_roster (State.not_atRest_of_onAir ‹_›)).trans
      (State.abortFrame_roster _ State.becomeListener_not_atRest _)
  · exact .refl s

theorem execRequestAcknowledge_membership (bits : BitVec 3) :
    Answers (KeepsMembership s) (execRequestAcknowledge bits s) := by
  refine running_roster ?_
  split
  · exact s.requestAnswered_roster (State.not_atRest_of_onAir ‹_›) _ _ _
  · exact .refl s

theorem execReplyAcknowledge_membership (bits : BitVec 3) : Answers (KeepsMembership s) (execReplyAcknowledge bits s) := by
  refine running_roster ?_
  split
  · exact s.replyAnswered_roster (State.not_atRest_of_onAir ‹_›) _ _ _
  · exact .refl s

theorem execAnnounceTransmitted_membership : Answers (KeepsMembership s) (execAnnounceTransmitted s) := by
  refine running_membership ?_
  split
  · exact s.announced_membership
  · exact .refl s

theorem execLeaveTransmitted_membership : Answers (KeepsMembership s) (execLeaveTransmitted s) := by
  refine running_membership ?_
  split
  · exact s.left_membership
  · exact .refl s

theorem execLockedReadPhaseEnd_membership (t : Transfer) : Answers (KeepsMembership s) (execLockedReadPhaseEnd t s) := by
  refine running_roster ?_
  split
  · split
    · exact s.endReadPhase_roster _ _ t
    · exact .refl s
  · exact .refl s

theorem execProbe_membership (i : Station) (t : Tag) (b : Bool) : Answers (KeepsMembership s) (execProbe i t b s) :=
  running_membership <| s.heard_membership i fun u hu =>
    .either ((u.hear_roster hu i).trans (State.drive_roster _ _)) (u.hear_roster hu i)

theorem execAnnounce_membership (i : Station) : Answers (KeepsMembership s) (execAnnounce i s) :=
  running_membership <| s.heard_membership i fun u hu =>
    ((u.hear_roster hu i).trans (State.purge_roster _ i)).trans (State.checkDrain_roster _)

theorem execLeaveFrame_membership (i : Station) : Answers (KeepsMembership s) (execLeaveFrame i s) :=
  running_membership <| s.heard_membership i fun u hu =>
    ((u.hearLeave_roster hu i).trans (State.purge_roster _ i)).trans (State.checkDrain_roster _)

theorem execRegisterWrite_membership {offset : BitVec 12} {w : Word} (h : offset = 0x004#12 → w.getLsbD 2 = false) :
    Answers (KeepsMembership s) (execRegisterWrite offset w s) := by
  have ha (r : HostReply) : KeepsRoster s (s.answerHost r) := .refl s
  exact hostAccess_membership (.either (.after (ha .done) (State.writeRegister_membership _ h)) (ha .busError).membership)

theorem execResetAsserted_membership (landed : List Bool) : Answers (KeepsMembership s) (execResetAsserted landed s) := by
  unfold execResetAsserted
  split
  · exact .next (.refl s)
  · exact .next (s.assertReset_roster landed).membership

theorem execHostPortReady_membership : Answers (KeepsMembership s) (execHostPortReady s) :=
  running_roster (f := fun u => { u with host := { u.host with startup := none } }) (.refl s)

end Commands

/-- Every command but a reset keeps the Roster sound and sets the LINK cause where it changes the link state. -/
theorem exec_membership {c : Instr} (hc : ¬isReset c) (s : State) : Answers (KeepsMembership s) (exec c s) := by
  cases c with
  | join stn rate leaveToo enable =>
    exact hostWrite_membership fun u => State.joinOrLeave_membership (u.setEnable enable) stn rate leaveToo
  | leave enable => exact hostWrite_membership fun u => State.leaveLink_membership (u.setEnable enable)
  | softReset b => exact absurd (.inl ⟨b, rfl⟩) hc
  | inboundEnableWrite enable => exact hostWrite_roster fun u => .refl u
  | limitsWrite w => exact hostWrite_membership fun u => u.setLimits_membership w
  | mapBaseWrite w => exact hostWrite_roster fun u => u.setMapBase_roster w
  | linkCauseClear w => exact hostWrite_membership fun u => u.clearLinkCause_membership w
  | interruptMaskWrite w => exact hostWrite_membership fun u => ⟨.inl rfl, id⟩
  | fenceRead => exact hostAccess_roster s.readFence_roster
  | fenceReadComplete => exact running_roster (.either s.completeFence_roster (.refl s))
  | signalPop w => exact hostWrite_roster fun u => .refl u
  | eventPop w => exact hostWrite_roster fun u => .refl u
  | maintRegisterWrite r w => exact hostWrite_roster fun u => u.writeMaint_roster r w
  | update => exact hostWrite_roster fun u => u.takeUpdate_roster
  | read => exact hostWrite_roster fun u => u.takeRead_roster
  | invalidateAll => exact hostWrite_roster fun u => u.takeInvalidate_roster
  | maintCommandUndefined w => exact hostWrite_roster fun u => .refl u
  | slotParameterWrite k r w => exact hostWrite_roster fun u => u.writeSlot_roster k r w
  | go k => exact hostWrite_roster fun u => u.goSlot_roster k
  | release k => exact hostWrite_roster fun u => u.releaseSlot_roster k
  | cancel k => exact hostWrite_roster fun u => u.cancelSlot_roster k
  | slotCommandUndefined k w => exact hostWrite_roster fun u => .refl u
  | registerWrite offset w =>
    exact execRegisterWrite_membership fun ho => Bool.eq_false_iff.mpr fun hw => hc (.inr (.inr ⟨_, _, rfl, ho, hw⟩))
  | registerAccessInvalid write size offset => exact hostAccess_roster (.refl s)
  | apertureStore a size data => exact hostAccess_roster (s.storeAccess_roster a size data)
  | apertureLoad a size => exact hostAccess_roster (s.loadAccess_roster a size)
  | heldStorePlaced => exact running_roster s.endHeldStore_roster
  | postedEntryPresented p => exact running_roster (s.presentPlace_roster p)
  | loadPresented => exact running_roster s.presentLoad_roster
  | slotPresented k => exact running_roster (s.presentSlot_roster k)
  | drainComplete => exact running_roster s.checkDrain_roster
  | transmitOpportunity => exact running_roster s.transmit_roster
  | arbitrationLost => exact execArbitrationLost_membership
  | readbackAbort => exact execReadbackAbort_membership
  | requestAcknowledge bits => exact execRequestAcknowledge_membership bits
  | replyAcknowledge bits => exact execReplyAcknowledge_membership bits
  | announceTransmitted => exact execAnnounceTransmitted_membership
  | leaveTransmitted => exact execLeaveTransmitted_membership
  | backoffElapsed t => exact running_roster (s.endBackoff_roster t)
  | loopbackBackoffElapsed t => exact running_roster (s.endLoopbackBackoff_roster t)
  | replyBackoffElapsed i t => exact running_roster (s.endReplyBackoff_roster i t)
  | responseTimeout t => exact running_roster (s.timeOut_roster t)
  | roundGapElapsed => exact running_roster s.endRound_roster
  | joinListenComplete => exact running_membership s.endListen_membership
  | mediumSyncRun => exact running_roster s.endSync_roster
  | strayDominantBit => exact running_roster s.strayBit_roster
  | badFrame n => exact running_roster (s.dropFrame_roster n)
  | malformedFrame frame => exact running_membership (s.heard_membership _ fun u hu => u.hear_roster hu _)
  | frameHeard i => exact running_membership (s.heard_membership i fun u hu => u.hear_roster hu i)
  | ownSourceFrameHeard => exact running_membership (s.heard_membership _ fun u _ => .refl u)
  | readReq i t b p o n =>
    exact running_membership (s.heard_membership i fun u hu => .either (u.decideOffer_roster hu i t b _) (u.hear_roster hu i))
  | writeReq i t b p o ws =>
    exact running_membership (s.heard_membership i fun u hu => .either (u.decideOffer_roster hu i t b _) (u.hear_roster hu i))
  | atomicReq i t b p o op => exact running_membership (s.heard_membership i fun u hu => u.decideOffer_roster hu i t b _)
  | signal i t b v => exact running_membership (s.heard_membership i fun u hu => u.decideOffer_roster hu i t b _)
  | probe i t b => exact execProbe_membership i t b
  | response i t b st data =>
    exact running_membership (s.heard_membership i fun u hu => .either (u.answer_roster hu i t b st data) (u.hear_roster hu i))
  | announce i => exact execAnnounce_membership i
  | leaveFrame i => exact execLeaveFrame_membership i
  | executionStart => exact running_roster s.startExecution_roster
  | mapFillEnd ts => exact running_roster (s.endCycle_roster _ ts fun _ r u => u.fillEnded_roster r)
  | dataCycleEnd ts => exact running_roster (s.endCycle_roster _ ts fun _ r u => u.dataEnded_roster r)
  | lockedReadPhaseEnd t => exact execLockedReadPhaseEnd_membership t
  | lockedWritePhaseEnd t => exact running_roster (s.endCycle_roster _ [t] fun _ r u => u.dataEnded_roster r)
  | mapWriteEnd ts => exact running_roster (s.endCycle_roster _ ts fun c r u => u.updateEnded_roster c r)
  | maintMapReadEnd ts => exact running_roster (s.endCycle_roster _ ts fun c r u => u.maintReadEnded_roster c r)
  | discardedCycleEnd ts => exact running_roster (s.endCycle_roster _ ts fun _ _ u => .refl u)
  | resetAsserted landed => exact execResetAsserted_membership landed
  | resetReleased p => exact absurd (.inr (.inl ⟨p, rfl⟩)) hc
  | hostPortReady => exact execHostPortReady_membership
  | startMarker => exact running_roster s.startSeen_roster
  | acknowledgeSlotCompleted => exact running_roster s.endSlotAfterReset_roster

/-- Settles O14: only the resets change the link state and leave the LINK cause clear. -/
theorem everyLinkStateChangeSetsTheLinkCause : Obligations.EveryLinkStateChangeSetsTheLinkCause := by
  intro c s t h hl
  by_cases hc : isReset c
  · exact .inr hc
  · exact .inl ((exec_membership hc s t h).1.resolve_left hl)

section Resets

variable {s : State}

theorem execSoftReset_rosterSound (h : s.rosterSound) (b : Bool) : Answers State.rosterSound (execSoftReset b s) := by
  unfold execSoftReset hostWrite hostAccess
  split
  · exact .next (t := s.waitOnBus _) h
  · exact .next (State.softReset_rosterSound (s := s.answerHost .done) h b)

theorem execResetReleased_rosterSound (h : s.rosterSound) (p : ResetPulse) :
    Answers State.rosterSound (execResetReleased p s) := by
  unfold execResetReleased
  split
  · cases p with
    | full => exact .next s.powerOn_rosterSound
    | short taken =>
      cases taken with
      | true => exact .next s.powerOn_rosterSound
      | false => exact .next (s.notReset_roster.rosterSound h)
  · exact .next h

/-- A word written to CONTROL with SOFT-RESET (R171). -/
theorem exec_controlReset_rosterSound (h : s.rosterSound) {w : Word} (hw : w.getLsbD 2 = true) :
    Answers State.rosterSound (exec (.registerWrite 0x004#12 w) s) := by
  cases hb : s.hostBlocked with
  | false =>
    rw [exec_registerWrite_free hb (by decide), State.writeRegister_control, State.writeControl, if_pos hw]
    exact .next (State.softReset_rosterSound (s := s.answerHost .done) h true)
  | true =>
    have hwaits : execRegisterWrite 0x004#12 w s = .next (s.waitOnBus (.registerWrite 0x004#12 w)) :=
      hostAccess_blocked _ _ hb
    rw [show exec (.registerWrite 0x004#12 w) s = execRegisterWrite 0x004#12 w s from rfl, hwaits]
    exact .next (t := s.waitOnBus _) h

end Resets

/-- Every command keeps the Roster sound. -/
theorem exec_rosterSound (c : Instr) {s : State} (h : s.rosterSound) : Answers State.rosterSound (exec c s) := by
  by_cases hc : isReset c
  · obtain ⟨b, rfl⟩ | ⟨p, rfl⟩ | ⟨o, v, rfl, rfl, hv⟩ := hc
    · exact execSoftReset_rosterSound h b
    · exact execResetReleased_rosterSound h p
    · exact exec_controlReset_rosterSound h hv
  · exact fun t e => (exec_membership hc s t e).2 h

theorem putBack_rosterSound {r : Result} (h : Answers State.rosterSound r) (rest : List Instr) :
    Answers State.rosterSound (putBack rest r) := by
  cases r with
  | next t => exact .next (t := t.withWaiting _) (h t rfl)
  | fault _ => exact h
  | refused _ => exact h

/-- What the part does of itself keeps the Roster sound where the commands it runs do. -/
theorem idleStep_rosterSound {s : State} (h : s.rosterSound) : Answers State.rosterSound (s.idleStep exec) := by
  unfold State.idleStep
  split
  · exact exec_rosterSound _ h
  split
  · exact putBack_rosterSound (exec_rosterSound _ (s := s.withWaiting []) h) _
  · exact .next (s.tick_roster.rosterSound h)

/-- Settles O57: a command from the queue, a happening that is due, a waiting access and one bit time each keep the limits in
range and the Roster sound. -/
theorem everyStepKeepsTheRosterSound : Obligations.EveryStepKeepsTheRosterSound := by
  intro s t h e
  have hq (rest : List Instr) : ({ s with pending := rest } : State).rosterSound := h
  unfold step at e
  split at e
  · exact exec_rosterSound _ (hq _) t e
  · exact idleStep_rosterSound h t e

end Sys2Proof.Machine

/-! SUPPORT. JOIN and LEAVE by the link state (R103, R107, R110), the drain (R109), and the membership frames sent whole (R105). -/

namespace Sys2Proof.Machine

section Links

variable {s : State}

/-! ## The drain (R109) -/

theorem State.drained_iff :
    s.drained = true ↔ (∀ g : Tag, s.outbound.table[g] = none) ∧ s.aperture.posted = [] ∧ s.inbound.list = [] := by
  have htable : s.outbound.table.toList.all Option.isNone = true ↔ ∀ g : Tag, s.outbound.table[g] = none := by
    simp only [List.all_eq_true, Option.isNone_iff_eq_none, Vector.mem_toList_iff, Vector.mem_iff_getElem]
    exact ⟨fun h g => h _ ⟨g.val, g.isLt, rfl⟩, fun h o ⟨i, hi, ho⟩ => ho ▸ h ⟨i, hi⟩⟩
  rw [State.drained, Bool.and_eq_true, Bool.and_eq_true, htable, List.isEmpty_iff, List.isEmpty_iff, and_assoc]

theorem State.checkDrain_drained (hl : s.membership.link = .draining) (hd : s.drained = true) :
    s.checkDrain = { s with membership := { s.membership with leavePending := true } } := if_pos ⟨hl, hd⟩

theorem State.checkDrain_waits (h : s.membership.link ≠ .draining ∨ ¬s.drained = true) : s.checkDrain = s :=
  if_neg fun hd => h.elim (fun hl => hl hd.1) fun hn => hn hd.2

theorem State.checkDrain_draining (hl : s.membership.link = .draining) :
    s.checkDrain =
      { s with membership := { s.membership with leavePending := s.membership.leavePending || s.drained } } := by
  cases hd : s.drained with
  | false => rw [State.checkDrain_waits (.inr (by simp [hd])), Bool.or_false]
  | true => rw [State.checkDrain_drained hl hd, Bool.or_true]

/-! ## JOIN and LEAVE (R103, R107, R110) -/

theorem State.joinLink_offline (hl : s.membership.link = .offline) (stn : Station) (rate : BitVec 2) :
    s.joinLink stn rate =
      { s with
        membership := { s.membership with link := .listening, own := stn, rate := rate, roster := freshRoster stn }
        link := { s.link with attached := true, phase := .sync 0, idleLength := 0, spent := false }
        interrupt := { s.interrupt with linkCause := true }
        pins := { s.pins with stn := stn, rate := rate } } := by
  rw [State.joinLink, State.setLink_changed (by rw [hl]; decide)]

theorem State.offlineByLeave_joined (hl : s.membership.link ≠ .offline) :
    s.offlineByLeave =
      { s with
        membership :=
          { s.membership with
            link := .offline, announcePending := false, leavePending := false, roster := freshRoster s.membership.own }
        link := s.link.detach
        inbound := { s.inbound with filter := emptyFilter }
        interrupt := { s.interrupt with linkCause := true } } := by
  rw [State.offlineByLeave, State.setLink_changed hl]

theorem State.leaveLink_ignored (hl : s.membership.link = .offline ∨ s.membership.link = .draining) : s.leaveLink = s := by
  obtain hl | hl := hl <;> simp only [State.leaveLink, hl]

theorem State.leaveLink_outside
    (hl : s.membership.link = .listening ∨ s.membership.link = .announcing ∨ s.membership.link = .conflict) :
    s.leaveLink = s.offlineByLeave := by
  obtain hl | hl | hl := hl <;> simp only [State.leaveLink, hl]

/-- LEAVE in ONLINE starts the drain, which may be complete at once (R107, R109). -/
theorem State.leaveLink_online (hl : s.membership.link = .online) :
    s.leaveLink =
      { s with
        membership := { s.membership with link := .draining, leavePending := s.membership.leavePending || s.drained }
        interrupt := { s.interrupt with linkCause := true } } := by
  have hset := State.setLink_changed (s := s) (l := .draining) (by rw [hl]; decide)
  have hleave : s.leaveLink = (s.setLink .draining).checkDrain := by simp only [State.leaveLink, hl]
  rw [hleave, State.checkDrain_draining (s.setLink_link _), hset]
  rfl

theorem State.joinOrLeave_offline (hl : s.membership.link = .offline) (stn : Station) (rate : BitVec 2) (b : Bool) :
    s.joinOrLeave stn rate b = s.joinLink stn rate := if_pos hl

theorem State.joinOrLeave_joined (hl : s.membership.link ≠ .offline) (stn : Station) (rate : BitVec 2) (b : Bool) :
    s.joinOrLeave stn rate b = if b then s.leaveLink else s := if_neg hl

/-- A CONTROL write that the Host Port has taken: Inbound Enable has the value written in the same happening (R169, R171). -/
def State.controlTaken (enable : Bool) (s : State) : State := (s.answerHost .done).setEnable enable

theorem exec_join (h : s.hostBlocked = false) (stn : Station) (rate : BitVec 2) (both enable : Bool) :
    exec (.join stn rate both enable) s =
      .next ((s.controlTaken enable).joinOrLeave stn rate both) := by
  change execJoin stn rate both enable s = _
  exact hostWrite_free _ _ h

theorem exec_leave (h : s.hostBlocked = false) (enable : Bool) :
    exec (.leave enable) s = .next (s.controlTaken enable).leaveLink := by
  change execLeave enable s = _
  exact hostWrite_free _ _ h

theorem State.writeControl_join {w : Word} (h2 : w.getLsbD 2 = false) (h0 : w.getLsbD 0 = true) :
    s.writeControl w = (s.setEnable (w.getLsbD 8)).joinOrLeave s.pins.stn s.pins.rate (w.getLsbD 1) := by
  simp only [State.writeControl, h2, h0, Bool.false_eq_true, if_false, if_true]
  rfl

theorem State.writeControl_leave {w : Word} (h2 : w.getLsbD 2 = false) (h0 : w.getLsbD 0 = false)
    (h1 : w.getLsbD 1 = true) : s.writeControl w = (s.setEnable (w.getLsbD 8)).leaveLink := by
  simp only [State.writeControl, h2, h0, h1, Bool.false_eq_true, if_false, if_true]

/-! ## The own membership frames sent whole (R91, R105, R109) -/

theorem exec_announceTransmitted (hr : s.pins.resetLow = false) {f : RawFrame}
    (hp : s.link.phase = .own { owner := .announce, frame := f }) : exec .announceTransmitted s = .next s.announced := by
  change execAnnounceTransmitted s = _
  refine running_eq hr ?_
  rw [State.onAir_own hp]

theorem exec_leaveTransmitted (hr : s.pins.resetLow = false) {f : RawFrame}
    (hp : s.link.phase = .own { owner := .leave, frame := f }) : exec .leaveTransmitted s = .next s.left := by
  change execLeaveTransmitted s = _
  refine running_eq hr ?_
  rw [State.onAir_own hp]

theorem State.announced_announcing (hl : s.membership.link = .announcing) :
    s.announced =
      { s with
        membership := { s.membership with link := .online, announcePending := false }
        link := { s.link with phase := .idle, idleLength := 0, receiveBuffer := .free }
        interrupt := { s.interrupt with linkCause := true } } := by
  have hl' : s.afterDelimiter.membership.link = .announcing := hl
  unfold State.announced
  rw [if_pos hl', State.setLink_changed (by rw [hl']; decide)]
  rfl

end Links

/-- Settles O10: the host access is taken, and JOIN and LEAVE act by their equation in each link state. -/
theorem joinAndLeaveActByLinkState : Obligations.JoinAndLeaveActByLinkState := by
  refine ⟨fun stn rate both enable s h => ⟨fun hl => ?join, fun hl => ⟨?ignored, ?both⟩⟩,
    fun enable s h => ⟨fun hl => ?quiet, fun hl => ?outside, fun hl => ?online⟩,
    fun v s h h2 => ⟨fun h0 => ?controlJoin, fun h0 h1 => ?controlLeave⟩⟩
  case join =>
    refine ⟨freshRoster stn, freshRoster_own stn, fun i hi => freshRoster_other hi, ?_⟩
    rw [exec_join h, State.joinOrLeave_offline (s := s.controlTaken enable) hl,
      State.joinLink_offline (s := s.controlTaken enable) hl]
    rfl
  case ignored =>
    rw [exec_join h, State.joinOrLeave_joined (s := s.controlTaken enable) hl]
    rfl
  case both =>
    rw [exec_join h, exec_leave h, State.joinOrLeave_joined (s := s.controlTaken enable) hl, if_pos rfl]
  case quiet =>
    rw [exec_leave h, State.leaveLink_ignored (s := s.controlTaken enable) hl]
    rfl
  case outside =>
    have hne : s.membership.link ≠ .offline := by obtain hl | hl | hl := hl <;> rw [hl] <;> decide
    refine ⟨freshRoster s.membership.own, emptyFilter, freshRoster_own _, fun i hi => freshRoster_other hi,
      emptyFilter_vacant, ?_⟩
    rw [exec_leave h, State.leaveLink_outside (s := s.controlTaken enable) hl,
      State.offlineByLeave_joined (s := s.controlTaken enable) hne]
    rfl
  case online =>
    rw [exec_leave h, State.leaveLink_online (s := s.controlTaken enable) hl]
    rfl
  case controlJoin =>
    rw [exec_registerWrite_free h (by decide), State.writeRegister_control, State.writeControl_join h2 h0, exec_join h]
    rfl
  case controlLeave =>
    rw [exec_registerWrite_free h (by decide), State.writeRegister_control, State.writeControl_leave h2 h0 h1, exec_leave h]
    rfl

/-- Settles O40: each membership frame by its effect in the link state that sent it, and the drain by what it waits for. -/
theorem membershipFramesAndTheDrain : Obligations.MembershipFramesAndTheDrain := by
  refine ⟨fun f s hr => ⟨fun hp hl => ?announce, fun hp hl => ?leave⟩,
    fun s hr => ⟨running_high _ hr, fun hl he => ?drained, fun h => ?waits⟩⟩
  case announce => rw [exec_announceTransmitted hr hp, State.announced_announcing hl]
  case leave =>
    refine ⟨freshRoster s.membership.own, emptyFilter, freshRoster_own _, fun i hi => freshRoster_other hi,
      emptyFilter_vacant, ?_⟩
    rw [exec_leaveTransmitted hr hp, State.left, if_pos hl, State.offlineByLeave_joined (by rw [hl]; decide)]
    rfl
  case drained => exact State.checkDrain_drained hl (State.drained_iff.mpr he)
  case waits => exact State.checkDrain_waits (h.imp_right (mt State.drained_iff.mp))

end Sys2Proof.Machine

/-! SUPPORT. The aperture from the host's side: the Aperture Map registers (R120), GO with its checks and its noted set (R140,
R141), lanes and stored words (R119, R122, R123), refused accesses (R121), and the fence (R132). -/

namespace Sys2Proof.Machine

/-! ## The Aperture Map registers (R120, R175) -/

section ApertureMap

/-- The fields of an Aperture Map register and the two gaps between them make up the whole word (R175). -/
theorem eq_of_apertureFields {x y : Word} (hpage : x.extractLsb' 0 12 = y.extractLsb' 0 12)
    (hlow : x.extractLsb' 12 4 = y.extractLsb' 12 4) (htarget : x.extractLsb' 16 4 = y.extractLsb' 16 4)
    (hhigh : x.extractLsb' 20 11 = y.extractLsb' 20 11) (hvalid : x.extractLsb' 31 1 = y.extractLsb' 31 1) : x = y := by
  simp only [← BitVec.toNat_inj, BitVec.extractLsb'_toNat, Nat.shiftRight_eq_div_pow] at *
  omega

theorem apertureEntryOf_target (w : Word) : (apertureEntryOf w).target.val = (w.extractLsb' 16 4).toNat := by
  rw [BitVec.extractLsb'_toNat, Nat.shiftRight_eq_div_pow]
  rfl

theorem apertureEntryOf_page (w : Word) : (apertureEntryOf w).page.val = (w.extractLsb' 0 12).toNat := by
  rw [BitVec.extractLsb'_toNat, Nat.shiftRight_zero]
  rfl

theorem apertureEntryOf_valid (w : Word) : flag (apertureEntryOf w).valid = (w.extractLsb' 31 1).toNat := by
  have hbit : (apertureEntryOf w).valid = decide (w.toNat / 2 ^ 31 % 2 = 1) := Nat.testBit_eq_decide_div_mod_eq
  rw [hbit, BitVec.extractLsb'_toNat, Nat.shiftRight_eq_div_pow, flag]
  split_ifs with h <;> rw [decide_eq_true_eq] at h <;> omega

/-- A field that a mask covers whole keeps its bits. -/
theorem extractLsb'_and_allOnes {w mask : Word} {start len : Nat}
    (h : mask.extractLsb' start len = BitVec.allOnes len) :
    (w &&& mask).extractLsb' start len = w.extractLsb' start len := by
  rw [BitVec.extractLsb'_and, h, BitVec.and_allOnes]

/-- A field that a mask leaves out is 0. -/
theorem extractLsb'_and_zero {w mask : Word} {start len : Nat} (h : mask.extractLsb' start len = 0#len) :
    (w &&& mask).extractLsb' start len = 0#len := by
  rw [BitVec.extractLsb'_and, h, BitVec.and_zero]

/-- An Aperture Map register reads back VALID, target and page of the word written, and 0 elsewhere (R120, R175). -/
theorem apertureEntryOf_word (w : Word) : (apertureEntryOf w).word = w &&& 0x800F0FFF#32 := by
  have hp := apertureEntryOf_page w
  have ht := apertureEntryOf_target w
  have hv := apertureEntryOf_valid w
  have hf := flag_le_one (apertureEntryOf w).valid
  refine eq_of_apertureFields ?page ?low ?target ?high ?valid <;>
    rw [ApertureEntry.word, ← BitVec.toNat_inj, extractLsb'_ofNat_toNat]
  case page =>
    rw [extractLsb'_and_allOnes (by decide)]
    omega
  case target =>
    rw [extractLsb'_and_allOnes (by decide)]
    omega
  case valid =>
    rw [extractLsb'_and_allOnes (by decide)]
    omega
  case low =>
    rw [extractLsb'_and_zero (by decide), BitVec.toNat_ofNat]
    omega
  case high =>
    rw [extractLsb'_and_zero (by decide), BitVec.toNat_ofNat]
    omega

/-- The offset of the register of an aperture page (R174). -/
theorem apertureMapOffset_toNat (a : Fin 64) : (BitVec.ofNat 12 (0x100 + 4 * a.val)).toNat = 0x100 + 4 * a.val := by
  rw [BitVec.toNat_ofNat]
  omega

theorem apertureMapOffset_page (a : Fin 64) : Fin.ofNat 64 ((0x100 + 4 * a.val - 0x100) / 4) = a := by
  refine Fin.ext ?_
  rw [Fin.val_ofNat]
  omega

/-- The offsets 100h to 1FCh write the Aperture Map: none of the eleven registers below them is meant (R174). -/
theorem State.writeRegister_apertureWindow {offset : BitVec 12} (hlo : 0x100 ≤ offset.toNat) (hhi : offset.toNat < 0x200)
    (w : Word) (s : State) :
    s.writeRegister offset w = s.setApertureEntry (Fin.ofNat 64 ((offset.toNat - 0x100) / 4)) w := by
  rw [State.writeRegister]
  iterate 11 refine (if_neg (by omega)).trans ?_
  exact if_pos ⟨hlo, hhi⟩

/-- The offsets 100h to 1FCh read the Aperture Map: no register below them is meant, nor the Roster (R174). -/
theorem State.readRegister_apertureWindow {offset : BitVec 12} (hlo : 0x100 ≤ offset.toNat) (hhi : offset.toNat < 0x200)
    (s : State) : s.readRegister offset = s.aperture.map[Fin.ofNat 64 ((offset.toNat - 0x100) / 4)].word := by
  rw [State.readRegister]
  iterate 21 refine (if_neg (by omega)).trans ?_
  exact if_pos ⟨hlo, hhi⟩

theorem State.writeRegister_apertureMap (a : Fin 64) (w : Word) (s : State) :
    s.writeRegister (BitVec.ofNat 12 (0x100 + 4 * a.val)) w = s.setApertureEntry a w := by
  have ha := apertureMapOffset_toNat a
  rw [State.writeRegister_apertureWindow (by omega) (by omega), ha, apertureMapOffset_page]

theorem State.readRegister_apertureMap (a : Fin 64) (s : State) :
    s.readRegister (BitVec.ofNat 12 (0x100 + 4 * a.val)) = s.aperture.map[a].word := by
  have ha := apertureMapOffset_toNat a
  rw [State.readRegister_apertureWindow (by omega) (by omega)]
  simp only [ha, apertureMapOffset_page]

end ApertureMap

/-- Settles O8: the write by the register's equation, and the word read back by its fields. -/
theorem apertureMapRegisterHoldsWhatIsWritten : Obligations.ApertureMapRegisterHoldsWhatIsWritten := by
  intro a v s h
  have hwrite : exec (.registerWrite (BitVec.ofNat 12 (0x100 + 4 * a.val)) v) s =
      .next ((s.answerHost .done).setApertureEntry a v) := by
    have haligned : (BitVec.ofNat 12 (0x100 + 4 * a.val)).toNat % 4 = 0 := by
      rw [apertureMapOffset_toNat]
      omega
    rw [exec_registerWrite_free h haligned, State.writeRegister_apertureMap]
  refine ⟨apertureEntryOf v, rfl, apertureEntryOf_target v, apertureEntryOf_page v, hwrite, fun t ht => ?_⟩
  obtain rfl : (s.answerHost .done).setApertureEntry a v = t := by simpa [hwrite] using ht
  rw [State.readRegister_apertureMap, ← apertureEntryOf_word]
  simp [State.setApertureEntry]

/-! ## GO (R140, R141) -/

section Go

variable {s : State} {k : SlotNo}

/-- Kind, word count, page and offset of a slot are in range (R140). -/
def Slot.inRange (sl : Slot) : Prop :=
  (1 ≤ sl.kind.toNat ∧ sl.kind.toNat ≤ 7) ∧ (sl.kind.toNat ≤ 2 → 1 ≤ sl.count.toNat ∧ sl.count.toNat ≤ 16) ∧
    (sl.kind.toNat ≤ 5 → sl.page.toNat ≤ 4095 ∧ sl.offset.toNat ≤ 1023)

/-- A slot describes a transaction where its parameters are in range, and nowhere else (R140, R142). -/
theorem Slot.transaction_isSome_iff (sl : Slot) : sl.transaction.isSome = true ↔ sl.inRange := by
  have hkinds : (sl.kind.toNat = 0 ∨ 8 ≤ sl.kind.toNat) ∨ sl.kind.toNat = 1 ∨ sl.kind.toNat = 2 ∨ sl.kind.toNat = 3 ∨
      sl.kind.toNat = 4 ∨ sl.kind.toNat = 5 ∨ sl.kind.toNat = 6 ∨ sl.kind.toNat = 7 := by omega
  obtain hout | hk | hk | hk | hk | hk | hk | hk := hkinds
  · rw [Slot.transaction_none hout, Slot.inRange]
    simp only [Option.isSome_none, Bool.false_eq_true, false_iff]
    omega
  all_goals simp [Slot.transaction, Slot.inRange, Slot.kind_eq hk, Slot.addressOk, Slot.countOk, and_assoc]

/-- A slot with its outputs cleared, as GO leaves it before its checks (R144). -/
def Slot.cleared (sl : Slot) : Slot := { sl with status := none, result := 0#32, cancelPending := false }

theorem State.goSlot_badCommand (hi : s.slots[k].state.issued = false) (hr : ¬s.slots[k].inRange) :
    s.goSlot k = s.setSlot k (s.slots[k].cleared.finish .badCommand []) := by
  have hnone : s.slots[k].cleared.transaction = none := by
    rw [← Option.not_isSome_iff_eq_none, Slot.transaction_isSome_iff]
    exact hr
  simp only [State.goSlot, hi, Bool.false_eq_true, if_false]
  rw [← Slot.cleared, hnone]

theorem State.goSlot_inRange (hi : s.slots[k].state.issued = false) (hr : s.slots[k].inRange) :
    s.goSlot k =
      if s.membership.link = .online then
        (s.setSlot k { s.slots[k].cleared with state := .fence (s.notedFor s.slots[k].target) }).presentSlot k
      else s.setSlot k (s.slots[k].cleared.finish .linkDown []) := by
  obtain ⟨body, hbody⟩ : ∃ body, s.slots[k].cleared.transaction = some body :=
    Option.isSome_iff_exists.mp ((Slot.transaction_isSome_iff _).mpr hr)
  simp only [State.goSlot, hi, Bool.false_eq_true, if_false]
  rw [← Slot.cleared, hbody]
  rfl

theorem State.presentSlot_waits {noted : List Place} (hs : s.slots[k].state = .fence noted) (hn : noted ≠ []) :
    s.presentSlot k = s := by
  unfold State.presentSlot
  split
  · rename_i h _
    exact absurd (SlotState.fence.inj (hs.symm.trans h)) hn
  · rfl

end Go

/-- Settles O23: the two checks by their equations, and a GO that passes them by its noted set. -/
theorem goChecksAndThenWaitsForNotedEntries : Obligations.GoChecksAndThenWaitsForNotedEntries := by
  refine ⟨fun k s h hi => ?_, fun k s h hi hl h1 h7 hc ha => ?_⟩
  · intro sl kind good ended
    have hended (st : Status) (hst : st ≠ .ok) :
        (s.answerHost .done).setSlot k (sl.cleared.finish st []) = ended st := by
      rw [Slot.finish_failed hst]
      rfl
    refine ⟨fun hbad => ?_, fun hgood hdown => ?_⟩
    · rw [← hended .badCommand (by decide)]
      exact hostWrite_eq h (State.goSlot_badCommand (s := s.answerHost .done) hi hbad)
    · rw [← hended .linkDown (by decide)]
      exact hostWrite_eq h ((State.goSlot_inRange (s := s.answerHost .done) hi hgood).trans (if_neg hdown))
  · intro noted waiting
    have hgo : exec (.go k) s = .next (waiting.presentSlot k) :=
      hostWrite_eq h ((State.goSlot_inRange (s := s.answerHost .done) hi ⟨⟨h1, h7⟩, hc, ha⟩).trans (if_pos hl))
    have hnil : noted = [] ↔ ∀ e ∈ s.aperture.posted, e.target ≠ s.slots[k].target := s.notedFor_eq_nil _
    have hfence : waiting.slots[k].state = .fence noted := by simp [waiting]
    refine ⟨fun ⟨e, he, ht⟩ => ?_, fun hnone => ⟨hnil.mpr hnone, ?_⟩⟩
    · rw [hgo, State.presentSlot_waits hfence fun hn => hnil.mp hn e he ht]
    · have hhigh : waiting.pins.resetLow = false := State.resetHigh_of_free (s := s) h
      exact hgo.trans (running_high _ hhigh).symm

/-! ## Lanes and stored words (R119, R122, R123) -/

section Lanes

/-- A lane of a word that is put together from its four lanes (R176). -/
theorem laneByte_wordOfLanes (b : Fin 4 → Byte) (n : Fin 4) :
    laneByte (wordOfLanes (b 0) (b 1) (b 2) (b 3)) n = b n := by
  rw [laneByte_eq]
  match n with
  | 0 =>
    exact (BitVec.extractLsb'_append_eq_of_le (by decide)).trans
      ((BitVec.extractLsb'_append_eq_of_le (by decide)).trans BitVec.extractLsb'_append_eq_left)
  | 1 =>
    exact (BitVec.extractLsb'_append_eq_of_le (by decide)).trans
      ((BitVec.extractLsb'_append_eq_of_le (by decide)).trans BitVec.extractLsb'_append_eq_right)
  | 2 => exact (BitVec.extractLsb'_append_eq_of_le (by decide)).trans BitVec.extractLsb'_append_eq_right
  | 3 => exact BitVec.extractLsb'_append_eq_right

/-- A mask of lanes covers the bytes of its lanes and no other (R176). -/
theorem laneByte_laneMask (l : Lanes) (n : Fin 4) :
    laneByte (laneMask l) n = if l.getLsbD n then 0xFF#8 else 0#8 :=
  laneByte_wordOfLanes (fun n => if l.getLsbD n then 0xFF#8 else 0#8) n

theorem laneByte_and (x y : Word) (n : Nat) : laneByte (x &&& y) n = laneByte x n &&& laneByte y n := by
  simp only [laneByte_eq, BitVec.extractLsb'_and]

theorem laneByte_or (x y : Word) (n : Nat) : laneByte (x ||| y) n = laneByte x n ||| laneByte y n := by
  simp only [laneByte_eq, BitVec.extractLsb'_or]

theorem laneByte_not (x : Word) (n : Nat) : laneByte (~~~x) n = ~~~laneByte x n := by
  ext i hi
  have hlane : 24 - 8 * n + i < 32 := by omega
  simp [laneByte_eq, hlane]

theorem laneByte_maskedWord (l : Lanes) (v : Word) (n : Fin 4) :
    laneByte (maskedWord l v).data n = if l.getLsbD n then laneByte v n else 0#8 := by
  rw [maskedWord, laneByte_and, laneByte_laneMask]
  split
  · exact BitVec.and_allOnes
  · exact BitVec.and_zero

theorem laneByte_overlay (old new : MaskedWord) (n : Fin 4) :
    laneByte (overlay old new).data n = if new.mask.getLsbD n then laneByte new.data n else laneByte old.data n := by
  rw [overlay, laneByte_or, laneByte_and, laneByte_and, laneByte_not, laneByte_laneMask]
  split
  · rw [show ~~~0xFF#8 = 0#8 from rfl, BitVec.and_zero, BitVec.zero_or]
    exact BitVec.and_allOnes
  · rw [BitVec.and_zero, BitVec.or_zero]
    exact BitVec.and_allOnes

theorem accessLanes_byte (a : BitVec 18) : accessLanes .byte (apertureByte a) = some (1#4 <<< (a.toNat % 4)) := by
  rw [apertureByte]
  have hcases : a.toNat % 4 = 0 ∨ a.toNat % 4 = 1 ∨ a.toNat % 4 = 2 ∨ a.toNat % 4 = 3 := by omega
  obtain h | h | h | h := hcases <;> rw [h] <;> decide

theorem aperturePage_eq (a : BitVec 18) : (aperturePage a).val = (a.extractLsb' 12 6).toNat := by
  rw [BitVec.extractLsb'_toNat, Nat.shiftRight_eq_div_pow]
  rfl

theorem apertureWord_eq (a : BitVec 18) : (apertureWord a).val = (a.extractLsb' 2 10).toNat := by
  rw [BitVec.extractLsb'_toNat, Nat.shiftRight_eq_div_pow]
  rfl

end Lanes

/-- Settles O26: the lanes by the byte that the offset names, and the stored words lane by lane. -/
theorem apertureLanesAndStoredWords : Obligations.ApertureLanesAndStoredWords :=
  ⟨fun a => ⟨accessLanes_byte a, rfl, rfl, aperturePage_eq a, apertureWord_eq a⟩,
    fun l v old new n => ⟨rfl, laneByte_maskedWord l v n, rfl, laneByte_overlay old new n⟩⟩

/-! ## Misaligned and refused accesses (R119, R121) -/

section Refused

variable {s : State} {a : BitVec 18} {size : AccessSize}

theorem State.translateAccess_down (hl : s.membership.link ≠ .online) : s.translateAccess a = .error .linkDown := if_pos hl

theorem State.translateAccess_invalid (hl : s.membership.link = .online)
    (hv : (s.aperture.map[aperturePage a]).valid = false) : s.translateAccess a = .error .noTranslation := by
  simp only [State.translateAccess, hl, hv, ne_eq, not_true, Bool.false_eq_true, if_false]

theorem exec_apertureAccess_misaligned (h : s.hostBlocked = false) (hm : accessLanes size (apertureByte a) = none)
    (v : Word) :
    exec (.apertureStore a size v) s = .next (s.answerHost .busError) ∧
      exec (.apertureLoad a size) s = .next (s.answerHost .busError) := by
  refine ⟨(hostAccess_free _ _ h).trans ?_, (hostAccess_free _ _ h).trans ?_⟩
  · simp only [State.storeAccess, hm]
  · simp only [State.loadAccess, hm]

/-- An aligned access that does not translate ends with a bus error and APERTURE-REFUSED (R121). -/
theorem exec_apertureAccess_refused (h : s.hostBlocked = false) (hm : accessLanes size (apertureByte a) ≠ none)
    {st : Status} (ht : s.translateAccess a = .error st) (v : Word) :
    exec (.apertureStore a size v) s = .next ((s.answerHost .busError).addEvent (.refusedAccess a st)) ∧
      exec (.apertureLoad a size) s = .next ((s.answerHost .busError).addEvent (.refusedAccess a st)) := by
  obtain ⟨lanes, hlanes⟩ := Option.ne_none_iff_exists'.mp hm
  refine ⟨(hostAccess_free _ _ h).trans ?_, (hostAccess_free _ _ h).trans ?_⟩
  · simp only [State.storeAccess, hlanes, ht]
  · simp only [State.loadAccess, hlanes, ht]

end Refused

/-- Settles O27: the misaligned access, and the two reasons for which an access does not translate. -/
theorem misalignedOrRefusedAccessEndsWithABusError : Obligations.MisalignedOrRefusedAccessEndsWithABusError :=
  fun _ _ v _ h =>
    ⟨fun hm => exec_apertureAccess_misaligned h hm v,
      fun hm hl => exec_apertureAccess_refused h hm (State.translateAccess_down hl) v,
      fun hm hl hv => exec_apertureAccess_refused h hm (State.translateAccess_invalid hl hv) v⟩

/-! ## The fence (R132) -/

section Fence

variable {s : State}

theorem State.readFence_empty (hp : s.aperture.posted = []) : s.readFence = s.completeFence := by
  simp [State.readFence, hp]

theorem State.readFence_waits (hp : s.aperture.posted ≠ []) : s.readFence = s.holdHost .fence := by
  simp [State.readFence, hp]

theorem State.fenceDue_empty (hh : s.host.held = some .fence) (hp : s.aperture.posted = []) : s.fenceDue = true := by
  simp [State.fenceDue, hh, hp]

theorem State.fenceDue_waits (hp : s.aperture.posted ≠ []) : ¬s.fenceDue = true := by
  simp [State.fenceDue, hp]

/-- A write to the fence register is ignored (R132). -/
theorem State.writeRegister_fence (s : State) (w : Word) : s.writeRegister 0x028#12 w = s := rfl

end Fence

/-- Settles O31: the read by whether the buffer is empty, the held read likewise, and the write that is ignored. -/
theorem fenceReadReturnsAndClearsTheCount : Obligations.FenceReadReturnsAndClearsTheCount := by
  refine fun s => ⟨fun h hp => ?read, fun h hp => ?held, fun hr hh hp => ?complete, fun hr hp => ?waits, fun v h => ?write⟩
  case read =>
    refine (hostAccess_free _ _ h).trans ?_
    rw [State.readFence_empty hp]
    rfl
  case held =>
    refine (hostAccess_free _ _ h).trans ?_
    rw [State.readFence_waits hp]
    rfl
  case complete => exact running_eq hr (if_pos (State.fenceDue_empty hh hp))
  case waits => exact running_eq hr (if_neg (State.fenceDue_waits hp))
  case write => rw [exec_registerWrite_free h (by decide), State.writeRegister_fence]

end Sys2Proof.Machine

/-! SUPPORT. Command slots from the host's side: parameter writes and commands by the slot state (R136 to R139, R144), and the
registers of a slot at their offsets (R174, R175). -/

namespace Sys2Proof.Machine

/-! ## Slot writes and slot commands by the slot state (R138, R139, R144) -/

section SlotCommands

variable {s : State} {k : SlotNo}

/-- The target field takes bits 3 to 0 of the word written (R175). -/
theorem Slot.write_target (sl : Slot) (w : Word) : (sl.write .target w).target.val = (w.extractLsb' 0 4).toNat := by
  rw [BitVec.extractLsb'_toNat, Nat.shiftRight_zero]
  rfl

theorem State.writeSlot_issued (h : s.slots[k].state.issued = true) (r : SlotRegister) (w : Word) :
    s.writeSlot k r w = s := if_pos h

theorem State.writeSlot_stores (h : s.slots[k].state.issued = false) (r : SlotRegister) (w : Word) :
    s.writeSlot k r w = s.setSlot k (s.slots[k].write r w) := if_neg (Bool.eq_false_iff.mp h)

theorem State.goSlot_issued (h : s.slots[k].state.issued = true) : s.goSlot k = s.refuseSlot k := if_pos h

theorem State.releaseSlot_issued (h : s.slots[k].state.issued = true) : s.releaseSlot k = s.refuseSlot k := if_pos h

theorem State.releaseSlot_done (h : s.slots[k].state = .done) :
    s.releaseSlot k = s.setSlot k { s.slots[k] with state := .idle } := by
  have hfree : s.slots[k].state.issued = false := by rw [h]; rfl
  rw [State.releaseSlot, if_neg (Bool.eq_false_iff.mp hfree), if_pos h]

theorem State.releaseSlot_idle (h : s.slots[k].state = .idle) : s.releaseSlot k = s := by
  have hfree : s.slots[k].state.issued = false := by rw [h]; rfl
  have hdone : s.slots[k].state ≠ .done := by rw [h]; decide
  rw [State.releaseSlot, if_neg (Bool.eq_false_iff.mp hfree), if_neg hdone]

/-- A slot is ISSUED except in IDLE and DONE (R137). -/
theorem SlotState.issued_eq_false {x : SlotState} (h : x.issued = false) : x = .idle ∨ x = .done := by
  cases x with
  | idle => exact .inl rfl
  | done => exact .inr rfl
  | fence noted => exact absurd h (by simp [SlotState.issued])
  | entry => exact absurd h (by decide)

theorem State.cancelSlot_free (h : s.slots[k].state.issued = false) : s.cancelSlot k = s := by
  obtain hs | hs := SlotState.issued_eq_false h <;> simp only [State.cancelSlot, hs]

end SlotCommands

/-! ## The offsets of a slot's registers (R174) -/

section SlotOffsets

variable {k : SlotNo} {o : Nat} {r : SlotRegister} {s : State}

/-- The offset of a slot's register in the register window (R174). -/
theorem slotOffset_toNat (k : SlotNo) (ho : o < 0x80) :
    (BitVec.ofNat 12 (0x200 + 0x80 * k.val + o)).toNat = 0x200 + 0x80 * k.val + o := by
  rw [BitVec.toNat_ofNat]
  omega

theorem slotOffset_slot (k : SlotNo) (ho : o < 0x80) : Fin.ofNat 4 ((0x200 + 0x80 * k.val + o - 0x200) / 0x80) = k := by
  refine Fin.ext ?_
  rw [Fin.val_ofNat]
  omega

theorem slotOffset_mod (k : SlotNo) (ho : o < 0x80) : (0x200 + 0x80 * k.val + o) % 0x80 = o := by omega

theorem slotOffset_bufferWord (i : Fin 16) : Fin.ofNat 16 ((0x40 + 4 * i.val - 0x40) / 4) = i := by
  refine Fin.ext ?_
  rw [Fin.val_ofNat]
  omega

/-- The offsets 200h to 3FCh write the slots: no register below them is meant (R174). -/
theorem State.writeRegister_slotWindow {offset : BitVec 12} (hlo : 0x200 ≤ offset.toNat) (hhi : offset.toNat < 0x400)
    (w : Word) (s : State) :
    s.writeRegister offset w =
      s.writeSlotRegister (Fin.ofNat 4 ((offset.toNat - 0x200) / 0x80)) (offset.toNat % 0x80) w := by
  rw [State.writeRegister]
  iterate 12 refine (if_neg (by omega)).trans ?_
  exact if_pos ⟨hlo, hhi⟩

/-- The offsets 200h to 3FCh read the slots: no register below them is meant (R174). -/
theorem State.readRegister_slotWindow {offset : BitVec 12} (hlo : 0x200 ≤ offset.toNat) (hhi : offset.toNat < 0x400)
    (s : State) :
    s.readRegister offset = (s.slots[Fin.ofNat 4 ((offset.toNat - 0x200) / 0x80)]).read (offset.toNat % 0x80) := by
  rw [State.readRegister]
  iterate 22 refine (if_neg (by omega)).trans ?_
  exact if_pos ⟨hlo, hhi⟩

theorem State.writeRegister_slot (k : SlotNo) (ho : o < 0x80) (w : Word) (s : State) :
    s.writeRegister (BitVec.ofNat 12 (0x200 + 0x80 * k.val + o)) w = s.writeSlotRegister k o w := by
  have ha := slotOffset_toNat k ho
  rw [State.writeRegister_slotWindow (by omega) (by omega), ha, slotOffset_slot k ho, slotOffset_mod k ho]

theorem State.readRegister_slot (k : SlotNo) (ho : o < 0x80) (s : State) :
    s.readRegister (BitVec.ofNat 12 (0x200 + 0x80 * k.val + o)) = s.slots[k].read o := by
  have ha := slotOffset_toNat k ho
  rw [State.readRegister_slotWindow (by omega) (by omega)]
  simp only [ha, slotOffset_slot k ho, slotOffset_mod k ho]

/-- The slot offsets with a parameter register (R174). -/
def slotParameters : List (Nat × SlotRegister) :=
  [(0x00, .kind), (0x04, .target), (0x08, .page), (0x0C, .offset), (0x10, .count), (0x14, .operandA), (0x18, .operandB)]

theorem slotRegisterAt_parameters :
    ∀ x ∈ slotParameters, x.1 < 0x80 ∧ x.1 % 4 = 0 ∧ slotRegisterAt x.1 = some x.2 := by decide

theorem slotRegisterAt_buffer (i : Fin 16) : slotRegisterAt (0x40 + 4 * i.val) = some (.buffer i) := by
  rw [slotRegisterAt]
  iterate 7 rw [if_neg (by omega)]
  rw [if_pos (by omega), slotOffset_bufferWord]

/-- The slot offsets of the status and result registers, and the unassigned ones (R174). -/
def slotReadOnly : List Nat := [0x20, 0x24, 0x28, 0x2C, 0x30, 0x34, 0x38, 0x3C]

theorem slotRegisterAt_readOnly :
    ∀ o ∈ slotReadOnly, o < 0x80 ∧ o % 4 = 0 ∧ o ≠ 0x1C ∧ slotRegisterAt o = none := by decide

/-! ## Word writes at a slot's offsets (R138, R139, R174) -/

theorem State.writeSlotRegister_command (k : SlotNo) (w : Word) (s : State) :
    s.writeSlotRegister k 0x1C w = s.slotCommand k w := rfl

theorem State.writeSlotRegister_parameter (hr : slotRegisterAt o = some r) (k : SlotNo) (w : Word) (s : State) :
    s.writeSlotRegister k o w = s.writeSlot k r w := by
  have hne : o ≠ 0x1C := by
    rintro rfl
    exact absurd hr (by simp [slotRegisterAt])
  rw [State.writeSlotRegister, if_neg hne, hr]

theorem State.writeSlotRegister_readOnly (hne : o ≠ 0x1C) (hr : slotRegisterAt o = none) (k : SlotNo) (w : Word)
    (s : State) : s.writeSlotRegister k o w = s := by
  rw [State.writeSlotRegister, if_neg hne, hr]

/-- A word written at an offset of a slot while the Host Port is free (R169, R174). -/
theorem exec_slotOffset (h : s.hostBlocked = false) (k : SlotNo) (ho : o < 0x80) (ha : o % 4 = 0) (v : Word) :
    exec (.registerWrite (BitVec.ofNat 12 (0x200 + 0x80 * k.val + o)) v) s =
      .next ((s.answerHost .done).writeSlotRegister k o v) := by
  have haligned : (BitVec.ofNat 12 (0x200 + 0x80 * k.val + o)).toNat % 4 = 0 := by
    rw [slotOffset_toNat k ho]
    omega
  rw [exec_registerWrite_free h haligned, State.writeRegister_slot k ho]

/-- A parameter or buffer word is written at its offset as by its command (R138, R174). -/
theorem exec_slotRegister (h : s.hostBlocked = false) (k : SlotNo) (ho : o < 0x80) (ha : o % 4 = 0)
    (hr : slotRegisterAt o = some r) (v : Word) :
    exec (.registerWrite (BitVec.ofNat 12 (0x200 + 0x80 * k.val + o)) v) s = exec (.slotParameterWrite k r v) s := by
  rw [exec_slotOffset h k ho ha, State.writeSlotRegister_parameter hr]
  exact (hostWrite_free _ _ h).symm

/-- The slot command register does what the command of its code does (R139, R175). -/
theorem exec_slotCommand (h : s.hostBlocked = false) (k : SlotNo) (v : Word) :
    exec (.registerWrite (BitVec.ofNat 12 (0x200 + 0x80 * k.val + 0x1C)) v) s =
      (if v = 1#32 then exec (.go k) s else if v = 2#32 then exec (.release k) s
       else if v = 3#32 then exec (.cancel k) s else exec (.slotCommandUndefined k v) s) := by
  rw [exec_slotOffset h k (by decide) (by decide), State.writeSlotRegister_command, State.slotCommand]
  split_ifs
  · exact (hostWrite_free _ _ h).symm
  · exact (hostWrite_free _ _ h).symm
  · exact (hostWrite_free _ _ h).symm
  · exact (hostWrite_free _ _ h).symm

end SlotOffsets

/-! ## What the slot registers read (R136, R175) -/

section SlotReads

variable (sl : Slot)

theorem Slot.read_kind : (sl.read 0x00).toNat = sl.kind.toNat :=
  BitVec.toNat_setWidth_of_le (b := sl.kind) (by decide : _ ≤ 32)

theorem Slot.read_target : (sl.read 0x04).toNat = sl.target.val :=
  Nat.mod_eq_of_lt (sl.target.isLt.trans (by decide))

theorem Slot.read_page : (sl.read 0x08).toNat = sl.page.toNat :=
  BitVec.toNat_setWidth_of_le (b := sl.page) (by decide : _ ≤ 32)

theorem Slot.read_offset : (sl.read 0x0C).toNat = sl.offset.toNat :=
  BitVec.toNat_setWidth_of_le (b := sl.offset) (by decide : _ ≤ 32)

theorem Slot.read_count : (sl.read 0x10).toNat = sl.count.toNat :=
  BitVec.toNat_setWidth_of_le (b := sl.count) (by decide : _ ≤ 32)

theorem Slot.read_buffer (i : Fin 16) : sl.read (0x40 + 4 * i.val) = sl.buffer[i] := by
  rw [Slot.read]
  iterate 9 refine (if_neg (by omega)).trans ?_
  refine (if_pos (by omega)).trans ?_
  simp only [slotOffset_bufferWord]

theorem SlotState.code_le (x : SlotState) : x.code ≤ 2 := by cases x <;> simp [SlotState.code]

theorem SlotState.code_eq_zero_iff (x : SlotState) : x.code = 0 ↔ x = .idle := by cases x <;> simp [SlotState.code]

theorem SlotState.code_eq_one_iff (x : SlotState) : x.code = 1 ↔ x.issued = true := by
  cases x <;> simp [SlotState.code, SlotState.issued]

theorem SlotState.code_eq_two_iff (x : SlotState) : x.code = 2 ↔ x = .done := by cases x <;> simp [SlotState.code]

/-- The status field of five bits holds each status code, 0 for none (R175). -/
theorem Status.code_getD_lt (st : Option Status) : (st.map Status.code).getD 0 < 32 := by
  cases st with
  | none => decide
  | some st => cases st <;> decide

/-- The slot status register holds the state code in bits 1 to 0 (R175). -/
theorem Slot.statusWord_state (n : BitVec 2) : sl.statusWord.extractLsb' 0 2 = n ↔ sl.state.code = n.toNat := by
  have hx := sl.state.code_le
  have hs := Status.code_getD_lt sl.status
  have hc := flag_le_one sl.cancelPending
  rw [← BitVec.toNat_inj, Slot.statusWord, extractLsb'_ofNat_toNat]
  omega

theorem Slot.statusWord_cancelPending : sl.statusWord.getLsbD 4 = sl.cancelPending := by
  have hx := sl.state.code_le
  have hc := flag_le_one sl.cancelPending
  rw [Slot.statusWord]
  exact getLsbD_ofNat_flag (by decide) (by omega)

theorem Slot.statusWord_status : (sl.statusWord.extractLsb' 8 5).toNat = (sl.status.map Status.code).getD 0 := by
  have hx := sl.state.code_le
  have hs := Status.code_getD_lt sl.status
  have hc := flag_le_one sl.cancelPending
  rw [Slot.statusWord, extractLsb'_ofNat_toNat]
  omega

end SlotReads

/-- Settles O22: the writes and the commands by the slot state, the word writes by what stands at the offset, and the
registers by their fields. -/
theorem slotWritesAndCommandsByState : Obligations.SlotWritesAndCommandsByState := by
  refine ⟨fun k r v s h => ⟨fun hi => ?issued, fun hi => ⟨s.slots[k].write r v, ?stores, ?field⟩⟩,
    fun k v s h => ?commands, fun k v s h => ?offsets, fun k s => ?reads⟩
  case issued => exact hostWrite_eq h (State.writeSlot_issued (s := s.answerHost .done) hi r v)
  case stores => exact hostWrite_eq h (State.writeSlot_stores (s := s.answerHost .done) hi r v)
  case field =>
    cases r with
    | target => exact ⟨_, s.slots[k].write_target v, rfl⟩
    | kind | page | offset | count | operandA | operandB | buffer i => rfl
  case commands =>
    exact ⟨hostWrite_free _ _ h,
      fun hi => ⟨hostWrite_eq h (State.goSlot_issued (s := s.answerHost .done) hi),
        hostWrite_eq h (State.releaseSlot_issued (s := s.answerHost .done) hi)⟩,
      fun hd => hostWrite_eq h (State.releaseSlot_done (s := s.answerHost .done) hd),
      fun hd => hostWrite_eq h (State.releaseSlot_idle (s := s.answerHost .done) hd),
      fun hi => hostWrite_eq h (State.cancelSlot_free (s := s.answerHost .done) hi)⟩
  case offsets =>
    refine ⟨fun x hx => ?_, fun i => ?_, exec_slotCommand h k v, fun o hmem => ?_⟩
    · obtain ⟨ho, ha, hr⟩ := slotRegisterAt_parameters x hx
      exact exec_slotRegister h k ho ha hr v
    · exact exec_slotRegister h k (by omega) (by omega) (slotRegisterAt_buffer i) v
    · obtain ⟨ho, ha, hne, hr⟩ := slotRegisterAt_readOnly o hmem
      exact (exec_slotOffset h k ho ha v).trans (congrArg _ (State.writeSlotRegister_readOnly hne hr k v _))
  case reads =>
    intro sl word
    have hword {o : Nat} (ho : o < 0x80) : word o = sl.read o := s.readRegister_slot k ho
    have hstatus : word 0x20 = sl.statusWord := hword (by decide)
    have hbuffer (i : Fin 16) : word (0x40 + 4 * i.val) = sl.buffer[i] := (hword (by omega)).trans (sl.read_buffer i)
    rw [hstatus, hword (o := 0x00) (by decide), hword (o := 0x04) (by decide), hword (o := 0x08) (by decide),
      hword (o := 0x0C) (by decide), hword (o := 0x10) (by decide)]
    exact ⟨sl.read_kind, sl.read_target, sl.read_page, sl.read_offset, sl.read_count, hword (by decide), hword (by decide),
      hword (by decide), hword (by decide), hbuffer, (sl.statusWord_state _).trans sl.state.code_eq_zero_iff,
      (sl.statusWord_state _).trans sl.state.code_eq_one_iff, (sl.statusWord_state _).trans sl.state.code_eq_two_iff,
      sl.statusWord_cancelPending, sl.statusWord_status⟩

end Sys2Proof.Machine

/-! SUPPORT. The Event Queue: an append and a POP by the number of records (R160, R164), and the fields of the head registers
(R159, R163, R175). -/

namespace Sys2Proof.Machine

/-- Settles O16: the two cases of the append, the rest of the state kept by the field update. -/
theorem eventAppendKeepsSixteenAndSetsOverflow : Obligations.EventAppendKeepsSixteenAndSetsOverflow :=
  fun s r => ⟨fun h => by rw [State.addEvent, EventQueue.append_room h],
    fun h => by rw [State.addEvent, EventQueue.append_full h]⟩

/-! ## POP of the Event Queue (R164) -/

theorem EventQueue.pop_empty {q : EventQueue} (h : q.records = []) : q.pop = q := by
  simp only [EventQueue.pop, h]

theorem EventQueue.pop_single {q : EventQueue} {r : EventRecord} (h : q.records = [r]) :
    q.pop = { records := [], overflow := false } := by
  simp only [EventQueue.pop, h]

theorem EventQueue.pop_cons_cons {q : EventQueue} {r x : EventRecord} {rs : List EventRecord}
    (h : q.records = r :: x :: rs) : q.pop = { q with records := x :: rs } := by
  simp only [EventQueue.pop, h]

/-- A POP leaves all records but the head, and keeps the overflow flag while records remain. -/
theorem EventQueue.pop_of_two_le {q : EventQueue} (h : 2 ≤ q.records.length) : q.pop = { q with records := q.records.tail } := by
  match hq : q.records with
  | [] | [_] => simp [hq] at h
  | _ :: _ :: _ => exact pop_cons_cons hq

theorem State.popEvent_eq {s : State} {q : EventQueue} (h : s.events.pop = q) : s.popEvent = { s with events := q } := by
  rw [State.popEvent, h]

theorem State.writeRegister_eventPop (s : State) (w : Word) : s.writeRegister 0x04C#12 w = s.popEvent := rfl

theorem exec_eventPop {s : State} (h : s.hostBlocked = false) (v : Word) :
    exec (.eventPop v) s = .next (s.answerHost .done).popEvent := hostWrite_free _ _ h

theorem exec_eventPop_eq {s : State} (h : s.hostBlocked = false) (v : Word) {q : EventQueue} (hq : s.events.pop = q) :
    exec (.eventPop v) s = .next { s.answerHost .done with events := q } := by
  rw [exec_eventPop h, State.popEvent_eq (s := s.answerHost .done) hq]

/-! ## The two orders of an append and a POP (R160, R164) -/

section Orders

variable {q : EventQueue} (r : EventRecord)

/-- A POP first makes room in a full queue. -/
theorem EventQueue.append_pop_full (h : q.records.length = 16) : (q.pop.append r).records = q.records.tail ++ [r] := by
  rw [pop_of_two_le (by omega), append_room (by simp [h])]

/-- A record that comes first is lost to a full queue, and the POP after it leaves the overflow flag set. -/
theorem EventQueue.pop_append_full (h : q.records.length = 16) :
    (q.append r).pop = { records := q.records.tail, overflow := true } := by
  rw [append_full h.ge, pop_of_two_le (q := { q with overflow := true }) (by omega : 2 ≤ q.records.length)]

theorem EventQueue.append_empty (h : q.records = []) : q.append r = { q with records := [r] } := by
  rw [append_room (by simp [h]), h, List.nil_append]

theorem EventQueue.append_single {x : EventRecord} (h : q.records = [x]) : q.append r = { q with records := [x, r] } := by
  rw [append_room (by simp [h]), h, List.singleton_append]

end Orders

/-! ## The marks and fields of a record as numbers (R159, R175) -/

theorem flag_eq_toNat (b : Bool) : flag b = b.toNat := by cases b <;> rfl

theorem EventKind.code_lt (k : EventKind) : k.code < 16 := by cases k <;> decide

/-- The fields of a record that are present, in the order of their marks (R159, R175). -/
def EventRecord.present (r : EventRecord) : Fin 7 → Bool
  | 0 => r.station.isSome
  | 1 => r.tag.isSome
  | 2 => r.slot.isSome
  | 3 => r.page.isSome
  | 4 => r.status.isSome
  | 5 => (r.address matches some (.local32 _))
  | 6 => (r.address matches some (.aperture _))

section Records

variable (r : EventRecord)

theorem EventRecord.present_local_iff : r.present 5 = true ↔ ∃ a, r.address = some (.local32 a) := by
  rcases h : r.address with _ | (a | a) <;> simp [present, h]

theorem EventRecord.present_aperture_iff : r.present 6 = true ↔ ∃ a, r.address = some (.aperture a) := by
  rcases h : r.address with _ | (a | a) <;> simp [present, h]

/-- The marks hold one bit for each field that can be present, and no other bit. -/
theorem EventRecord.marks_eq_ofBits : r.marks = Nat.ofBits r.present := by
  rcases h : r.address with _ | (a | a) <;>
    simp [marks, present, flag_eq_toNat, h, Nat.ofBits, Fin.foldr_succ] <;> omega

theorem EventRecord.marks_lt : r.marks < 128 := by
  rw [r.marks_eq_ofBits]
  exact Nat.ofBits_lt_two_pow r.present

theorem EventRecord.marks_testBit (i : Fin 7) : r.marks.testBit i = r.present i := by
  rw [r.marks_eq_ofBits, Nat.testBit_ofBits_lt _ _ i.isLt]

/-- The number of a field, 0 where there is none, stays below the field's bound. -/
theorem val_getD_lt {n : Nat} [NeZero n] (o : Option (Fin n)) : (o.map Fin.val).getD 0 < n := by
  cases o with
  | none => exact Nat.pos_of_neZero n
  | some x => exact x.isLt

/-- Each field of a record stands in its own bits of the fields register (R175). -/
theorem EventRecord.fields_split :
    ((BitVec.ofNat 32 r.fields).extractLsb' 0 4).toNat = (r.station.map Fin.val).getD 0 ∧
      ((BitVec.ofNat 32 r.fields).extractLsb' 4 4).toNat = (r.tag.map Fin.val).getD 0 ∧
      ((BitVec.ofNat 32 r.fields).extractLsb' 8 2).toNat = (r.slot.map Fin.val).getD 0 ∧
      ((BitVec.ofNat 32 r.fields).extractLsb' 10 5).toNat = (r.status.map Status.code).getD 0 ∧
      ((BitVec.ofNat 32 r.fields).extractLsb' 16 12).toNat = (r.page.map Fin.val).getD 0 := by
  have hstation := val_getD_lt r.station
  have htag := val_getD_lt r.tag
  have hslot := val_getD_lt r.slot
  have hstatus := Status.code_getD_lt r.status
  have hpage := val_getD_lt r.page
  simp only [extractLsb'_ofNat_toNat, fields]
  omega

end Records

/-! ## The head registers (R163, R174, R175) -/

section HeadRegisters

variable {s : State} {r : EventRecord} {rs : List EventRecord}

theorem State.readRegister_eventStatus : s.readRegister 0x040#12 = s.eventStatus := rfl
theorem State.readRegister_eventFields : s.readRegister 0x044#12 = s.eventFields := rfl
theorem State.readRegister_eventAddress : s.readRegister 0x048#12 = s.eventAddress := rfl

theorem State.eventStatus_empty (h : s.events.records = []) : s.eventStatus = 0#32 := by
  simp only [State.eventStatus, h]

theorem State.eventFields_empty (h : s.events.records = []) : s.eventFields = 0#32 := by
  simp only [State.eventFields, h]

theorem State.eventAddress_empty (h : s.events.records = []) : s.eventAddress = 0#32 := by
  simp only [State.eventAddress, h]

theorem State.eventFields_head (h : s.events.records = r :: rs) : s.eventFields = BitVec.ofNat 32 r.fields := by
  simp only [State.eventFields, h]

theorem State.eventStatus_head (h : s.events.records = r :: rs) :
    s.eventStatus =
      BitVec.ofNat 32 (r.kind.code + 256 * r.marks + 65536 * (rs.length + 1) + 16777216 * flag s.events.overflow) := by
  simp only [State.eventStatus, h, List.length_cons]

theorem State.eventStatus_kind (h : s.events.records = r :: rs) :
    (s.eventStatus.extractLsb' 0 4).toNat = r.kind.code := by
  have hkind := r.kind.code_lt
  rw [State.eventStatus_head h, extractLsb'_ofNat_toNat]
  omega

/-- The marks stand at bits 8 to 14, above the kind and below the count. -/
theorem State.eventStatus_mark (h : s.events.records = r :: rs) (i : Fin 7) :
    s.eventStatus.getLsbD (8 + i.val) = r.present i := by
  have hkind : r.kind.code < 2 ^ 8 := r.kind.code_lt.trans (by decide)
  have hsplit : r.kind.code + 256 * r.marks + 65536 * (rs.length + 1) + 16777216 * flag s.events.overflow =
      2 ^ 8 * (2 ^ 7 * (2 * (rs.length + 1) + 512 * flag s.events.overflow) + r.marks) + r.kind.code := by omega
  rw [State.eventStatus_head h, hsplit, BitVec.getLsbD_ofNat, decide_eq_true (by omega), Bool.true_and,
    Nat.testBit_two_pow_mul_add _ hkind, if_neg (by omega), Nat.add_sub_cancel_left,
    Nat.testBit_two_pow_mul_add _ r.marks_lt, if_pos i.isLt, r.marks_testBit]

theorem State.eventStatus_count (h : s.events.records = r :: rs) (hn : rs.length ≤ 15) :
    (s.eventStatus.extractLsb' 16 5).toNat = rs.length + 1 := by
  have hkind := r.kind.code_lt
  have hmarks := r.marks_lt
  have hoverflow := flag_le_one s.events.overflow
  rw [State.eventStatus_head h, extractLsb'_ofNat_toNat]
  omega

theorem State.eventStatus_overflow (h : s.events.records = r :: rs) (hn : rs.length ≤ 15) :
    s.eventStatus.getLsbD 24 = s.events.overflow := by
  have hkind := r.kind.code_lt
  have hmarks := r.marks_lt
  have hoverflow := flag_le_one s.events.overflow
  rw [State.eventStatus_head h]
  exact getLsbD_ofNat_flag (by decide) (by omega)

theorem State.eventAddress_none (h : s.events.records = r :: rs) (ha : r.address = none) : s.eventAddress = 0#32 := by
  simp only [State.eventAddress, h, ha]

theorem State.eventAddress_local {a : Word} (h : s.events.records = r :: rs) (ha : r.address = some (.local32 a)) :
    s.eventAddress = a := by
  simp only [State.eventAddress, h, ha]

theorem State.eventAddress_aperture {a : BitVec 18} (h : s.events.records = r :: rs)
    (ha : r.address = some (.aperture a)) : s.eventAddress.toNat = a.toNat := by
  simp only [State.eventAddress, h, ha]
  exact BitVec.toNat_setWidth_of_le (by decide)

end HeadRegisters

/-- Settles O17: POP by the number of records, its two orders with an append, and the head registers field by field. -/
theorem eventPopRemovesTheHead : Obligations.EventPopRemovesTheHead := by
  refine ⟨fun v s h => ⟨fun he => exec_eventPop_eq h v (EventQueue.pop_empty he),
      fun r hr => exec_eventPop_eq h v (EventQueue.pop_single hr),
      fun r x rs hr => exec_eventPop_eq h v (EventQueue.pop_cons_cons hr)⟩,
    fun q r => ⟨fun hfull => ?full, fun he => ?empty, fun x hx => ?single⟩,
    fun v s => ⟨fun h => ?write, fun he => ?emptyReads, fun r rs hr hn => ?headReads⟩⟩
  case full =>
    have hlost := EventQueue.pop_append_full r hfull
    exact ⟨EventQueue.append_pop_full r hfull, by rw [EventQueue.append_full hfull.ge],
      congrArg EventQueue.records hlost, congrArg EventQueue.overflow hlost⟩
  case empty =>
    have hone := EventQueue.append_empty r he
    exact ⟨by rw [hone, EventQueue.pop_single rfl], by rw [EventQueue.pop_empty he, hone]⟩
  case single =>
    exact ⟨by rw [EventQueue.pop_single hx, EventQueue.append_empty r rfl],
      by rw [EventQueue.append_single r hx, EventQueue.pop_cons_cons rfl]⟩
  case write => rw [exec_registerWrite_free h (by decide), State.writeRegister_eventPop, exec_eventPop h]
  case emptyReads => exact ⟨State.eventStatus_empty he, State.eventFields_empty he, State.eventAddress_empty he⟩
  case headReads =>
    intro st fields
    have hmark (i : Fin 7) : st.getLsbD (8 + i.val) = true ↔ r.present i = true := by
      rw [← State.eventStatus_mark hr i, ← State.readRegister_eventStatus]
    obtain ⟨hstation, htag, hslot, hstatus, hpage⟩ := r.fields_split
    have hfields : fields = BitVec.ofNat 32 r.fields := State.eventFields_head hr
    rw [hfields]
    refine ⟨State.eventStatus_kind hr, (hmark 0).trans Option.isSome_iff_ne_none, (hmark 1).trans Option.isSome_iff_ne_none,
      (hmark 2).trans Option.isSome_iff_ne_none, (hmark 3).trans Option.isSome_iff_ne_none,
      (hmark 4).trans Option.isSome_iff_ne_none, (hmark 5).trans r.present_local_iff, (hmark 6).trans r.present_aperture_iff,
      State.eventStatus_count hr hn, State.eventStatus_overflow hr hn, hstation, htag, hslot, hstatus, hpage, ?_⟩
    rw [State.readRegister_eventAddress]
    rcases ha : r.address with _ | (a | a)
    · exact congrArg BitVec.toNat (State.eventAddress_none hr ha)
    · exact congrArg BitVec.toNat (State.eventAddress_local hr ha)
    · exact State.eventAddress_aperture hr ha

end Sys2Proof.Machine

/-! SUPPORT. The queue of commands, which no effect of a command reads or changes: for each operation of the model that it leaves
the queue as it was. -/

namespace Sys2Proof.Machine

section Queue

variable (s : State)

/-- A choice between two states with one queue. -/
theorem State.ite_pending {c : Prop} [Decidable c] {t u : State} {q : List Instr} (ht : t.pending = q) (hu : u.pending = q) :
    (if c then t else u).pending = q := by
  split <;> assumption

/-! ## Operations that all blocks share -/

@[simp] theorem State.setLink_pending (l : LinkState) : (s.setLink l).pending = s.pending := ite_pending rfl rfl

@[simp] theorem State.hear_pending (i : Station) : (s.hear i).pending = s.pending := by
  obtain ⟨_, _, h⟩ := s.hear_touches i
  rw [h]

@[simp] theorem State.hearLeave_pending (i : Station) : (s.hearLeave i).pending = s.pending := by
  obtain ⟨_, _, h⟩ := s.hearLeave_touches i
  rw [h]

@[simp] theorem State.closeFilter_pending (i : Station) (t : Tag) (b : Bool) : (s.closeFilter i t b).pending = s.pending :=
  ite_pending rfl rfl

@[simp] theorem State.portRequest_pending (r : Requester) (q : Request) : (s.portRequest r q).pending = s.pending := by
  obtain ⟨_, h⟩ := s.portRequest_touches r q
  rw [h]

@[simp] theorem State.portNext_pending : s.portNext.pending = s.pending := by
  obtain ⟨_, h⟩ := s.portNext_touches
  rw [h]

@[simp] theorem State.checkDrain_pending : s.checkDrain.pending = s.pending := ite_pending rfl rfl

@[simp] theorem acceptDecision_pending (i : Station) (t : Tag) (b : Bool) (o : Offer) :
    (acceptDecision i t b o s).2.pending = s.pending := by
  obtain ⟨_, _, _, h, -⟩ := acceptDecision_touches s i t b o
  rw [h]

@[simp] theorem matchResponse_pending (i : Station) (t : Tag) (b : Bool) (st : WireStatus) (data : List Word) :
    (matchResponse i t b st data s).2.pending = s.pending := by
  obtain ⟨_, _, _, _, _, h, -⟩ := matchResponse_touches s i t b st data
  rw [h]

/-! ## Presentations and ends of transactions -/

@[simp] theorem State.endLoad_pending (st : Status) (data : List Word) : (s.endLoad st data).pending = s.pending := by
  obtain ⟨_, _, h⟩ := s.endLoad_touches st data
  rw [h]

@[simp] theorem State.endEntry_pending (t : Tag) (st : Status) (data : List Word) :
    (s.endEntry t st data).pending = s.pending := (s.endEntry_in t st data).pending

@[simp] theorem State.afterAttempt_pending (t : Tag) (code : AckCode) : (s.afterAttempt t code).pending = s.pending :=
  (s.afterAttempt_in t code).pending

@[simp] theorem State.presentLoopback_pending (t : Tag) : (s.presentLoopback t).pending = s.pending :=
  (s.presentLoopback_in t).pending

@[simp] theorem State.presentSlot_pending (k : SlotNo) : (s.presentSlot k).pending = s.pending :=
  (s.presentSlot_in k).pending

@[simp] theorem State.presentLoad_pending : s.presentLoad.pending = s.pending := s.presentLoad_in.pending

@[simp] theorem State.presentPosted_pending (e : PostedEntry) : (s.presentPosted e).pending = s.pending :=
  (s.present_in _ _ _).pending

@[simp] theorem State.placeStore_pending (st : HeldStore) : (s.placeStore st).pending = s.pending :=
  (s.placeStore_in st).pending

@[simp] theorem State.endHeldStore_pending : s.endHeldStore.pending = s.pending := s.endHeldStore_in.pending

@[simp] theorem State.completeFence_pending : s.completeFence.pending = s.pending := s.completeFence_in.pending

@[simp] theorem State.followThrough_pending : s.followThrough.pending = s.pending := by
  obtain ⟨_, _, ht, h⟩ := s.followThrough_touches
  rw [h]
  exact ht.pending

@[simp] theorem State.presentPlace_pending (p : Place) : (s.presentPlace p).pending = s.pending := by
  unfold State.presentPlace
  split
  · exact ite_pending (ite_pending (by simp) (by simp)) rfl
  · rfl

/-! ## The Inbound Engine and the Memory Port -/

@[simp] theorem State.loopbackReply_pending (e : ListEntry) (st : WireStatus) (data : List Word) :
    (s.loopbackReply e st data).pending = s.pending := by
  simp [State.loopbackReply]

@[simp] theorem State.endExecution_pending (st : WireStatus) (data : List Word) :
    (s.endExecution st data).pending = s.pending := by
  unfold State.endExecution
  split
  · rfl
  · rename_i e _
    have hev : (if st = .ok then s else s.addEvent (.rejected e st)).pending = s.pending := ite_pending rfl rfl
    exact ite_pending (by simp [hev]) (ite_pending (by simp [hev]) hev)

@[simp] theorem State.translated_pending (m : MapEntry) : (s.translated m).pending = s.pending := by
  unfold State.translated
  split
  · rfl
  · refine ite_pending (by simp) ?_
    simp only
    split <;> simp

@[simp] theorem State.lookup_pending (p : Page) : (s.lookup p).pending = s.pending := by
  unfold State.lookup
  split <;> simp

@[simp] theorem State.startExecution_pending : s.startExecution.pending = s.pending := by
  unfold State.startExecution
  split
  · rfl
  · simp only
    split
    · rfl
    · exact ite_pending (by simp) (by simp)

@[simp] theorem State.fillEnded_pending (r : ReadResult) : (s.fillEnded r).pending = s.pending := by
  unfold State.fillEnded
  split
  · rfl
  · exact ite_pending (by simp) (ite_pending (by simp) (by simp))

@[simp] theorem State.dataEnded_pending (r : ReadResult) : (s.dataEnded r).pending = s.pending :=
  ite_pending (by simp) (by simp)

@[simp] theorem State.discardEnded_pending (c : Cycle) : (s.discardEnded c).pending = s.pending :=
  ite_pending (by simp) rfl

@[simp] theorem State.updateEnded_pending (c : Cycle) (r : ReadResult) : (s.updateEnded c r).pending = s.pending := by
  unfold State.updateEnded
  split
  · exact ite_pending rfl rfl
  · rfl

@[simp] theorem State.maintReadEnded_pending (c : Cycle) (r : ReadResult) : (s.maintReadEnded c r).pending = s.pending :=
  ite_pending rfl rfl

theorem State.handOver_pending (c : Cycle) (r : ReadResult) {f : ReadResult → State → State}
    (hf : ∀ u, (f r u).pending = u.pending) : (s.handOver c r f).pending = s.pending := by
  unfold State.handOver
  rw [State.portNext_pending]
  exact ite_pending (hf _) (State.discardEnded_pending _ c)

theorem State.endCycle_pending (meant : Cycle → Bool) (ts : List Transfer) {f : Cycle → ReadResult → State → State}
    (hf : ∀ c r u, (f c r u).pending = u.pending) : (s.endCycle meant ts f).pending = s.pending := by
  unfold State.endCycle
  split
  · exact ite_pending (s.handOver_pending _ _ (hf _ _)) rfl
  · rfl

@[simp] theorem State.endReadPhase_pending (c : Cycle) (op : AtomicOp) (t : Transfer) :
    (s.endReadPhase c op t).pending = s.pending :=
  ite_pending rfl (s.handOver_pending c _ fun u => u.dataEnded_pending _)

/-! ## Frames sent -/

@[simp] theorem State.removeReply_pending (i : Station) (t : Tag) : (s.removeReply i t).pending = s.pending := by
  unfold State.removeReply
  split
  · rfl
  · simp

@[simp] theorem State.failReply_pending (i : Station) (t : Tag) : (s.failReply i t).pending = s.pending := by
  unfold State.failReply
  split
  · rfl
  · exact ite_pending rfl (by simp)

@[simp] theorem State.goOnAir_pending (o : TxOwner) : (s.goOnAir o).pending = s.pending := by
  cases o with
  | transaction t =>
    simp only [State.goOnAir, State.setTransState]
    split <;> rfl
  | reply | announce | leave => rfl

@[simp] theorem State.transmit_pending : s.transmit.pending = s.pending := by
  refine ite_pending ?_ rfl
  simp only
  split
  · exact State.goOnAir_pending _ _
  · rfl

@[simp] theorem State.handBack_pending (o : TxOwner) : (s.handBack o).pending = s.pending := by
  cases o with
  | transaction t =>
    simp only [State.handBack]
    split
    · rfl
    · exact ite_pending (by simp) rfl
  | reply | announce | leave => rfl

@[simp] theorem State.abortFrame_pending (o : TxOwner) : (s.abortFrame o).pending = s.pending := by
  cases o with
  | reply | transaction => simp [State.abortFrame]
  | announce | leave => rfl

@[simp] theorem State.hearAnswer_pending (i : Station) (code : AckCode) : (s.hearAnswer i code).pending = s.pending :=
  ite_pending rfl (s.hear_pending i)

@[simp] theorem State.requestAnswered_pending (t : Tag) (i : Station) (code : AckCode) :
    (s.requestAnswered t i code).pending = s.pending := by
  simp [State.requestAnswered]

@[simp] theorem State.replyAnswered_pending (i : Station) (t : Tag) (code : AckCode) :
    (s.replyAnswered i t code).pending = s.pending := by
  by_cases hc : code = .accept ∨ code = .stale
  · simp [State.replyAnswered_ends hc]
  · simp [State.replyAnswered_fails hc]

@[simp] theorem State.announced_pending : s.announced.pending = s.pending := ite_pending (State.setLink_pending _ _) rfl

@[simp] theorem State.offlineByLeave_pending : s.offlineByLeave.pending = s.pending := s.setLink_pending .offline

@[simp] theorem State.left_pending : s.left.pending = s.pending := ite_pending s.offlineByLeave_pending rfl

/-! ## Intervals and the medium -/

@[simp] theorem State.endBackoff_pending (t : Tag) : (s.endBackoff t).pending = s.pending := by
  unfold State.endBackoff
  split
  · exact ite_pending rfl rfl
  · rfl

@[simp] theorem State.endLoopbackBackoff_pending (t : Tag) : (s.endLoopbackBackoff t).pending = s.pending := by
  unfold State.endLoopbackBackoff
  split
  · exact ite_pending (by simp) rfl
  · rfl

@[simp] theorem State.endReplyBackoff_pending (i : Station) (t : Tag) : (s.endReplyBackoff i t).pending = s.pending := by
  unfold State.endReplyBackoff
  split <;> rfl

@[simp] theorem State.timeOut_pending (t : Tag) : (s.timeOut t).pending = s.pending := by
  unfold State.timeOut
  split
  · exact ite_pending (by simp) rfl
  · rfl

@[simp] theorem State.endRound_pending : s.endRound.pending = s.pending := ite_pending rfl rfl

@[simp] theorem State.endListen_pending : s.endListen.pending = s.pending :=
  ite_pending (s.setLink_pending .announcing) rfl

@[simp] theorem State.endSync_pending : s.endSync.pending = s.pending := by
  unfold State.endSync
  split <;> rfl

@[simp] theorem State.strayBit_pending : s.strayBit.pending = s.pending := by
  unfold State.strayBit
  split
  · rfl
  · exact ite_pending rfl rfl

@[simp] theorem State.startSeen_pending : s.startSeen.pending = s.pending := ite_pending rfl rfl

@[simp] theorem State.dropFrame_pending (n : Nat) : (s.dropFrame n).pending = s.pending := ite_pending rfl rfl

@[simp] theorem State.endSlotAfterReset_pending : s.endSlotAfterReset.pending = s.pending := by
  unfold State.endSlotAfterReset
  split
  · rfl
  · exact ite_pending rfl rfl

/-! ## CONFLICT and frames heard -/

@[simp] theorem State.failAllPosted_pending : s.failAllPosted.pending = s.pending := by
  have fold (es : List PostedEntry) : ∀ u : State, (es.foldl (fun u e => u.failPosted e .linkDown) u).pending = u.pending := by
    induction es with
    | nil => exact fun u => rfl
    | cons e es ih => exact fun u => ih (u.failPosted e .linkDown)
  exact fold _ _

@[simp] theorem State.endHeldAtConflict_pending : s.endHeldAtConflict.pending = s.pending := by
  unfold State.endHeldAtConflict
  split <;> simp

@[simp] theorem State.enterConflict_pending : s.enterConflict.pending = s.pending := by
  unfold State.enterConflict
  split <;> simp

theorem State.heard_pending (i : Station) {f : State → State} (hf : ∀ u, (f u).pending = u.pending) :
    (s.heard i f).pending = s.pending :=
  ite_pending (ite_pending (State.enterConflict_pending _) (hf _)) rfl

@[simp] theorem State.decideOffer_pending (i : Station) (t : Tag) (b : Bool) (o : Offer) :
    (s.decideOffer i t b o).pending = s.pending := ite_pending (by simp) (by simp)

@[simp] theorem State.answer_pending (i : Station) (t : Tag) (b : Bool) (st : WireStatus) (data : List Word) :
    (s.answer i t b st data).pending = s.pending := ite_pending (by simp) (by simp)

/-! ## Host accesses -/

@[simp] theorem State.setLimits_pending (w : Word) : (s.setLimits w).pending = s.pending := ite_pending rfl rfl

@[simp] theorem State.setMapBase_pending (w : Word) : (s.setMapBase w).pending = s.pending := ite_pending rfl rfl

@[simp] theorem State.leaveLink_pending : s.leaveLink.pending = s.pending := by
  unfold State.leaveLink
  split <;> simp

@[simp] theorem State.joinOrLeave_pending (stn : Station) (rate : BitVec 2) (b : Bool) :
    (s.joinOrLeave stn rate b).pending = s.pending :=
  ite_pending (s.setLink_pending .listening) (ite_pending s.leaveLink_pending rfl)

@[simp] theorem State.clearLinkCause_pending (w : Word) : (s.clearLinkCause w).pending = s.pending := ite_pending rfl rfl

@[simp] theorem State.writeMaint_pending (r : MaintRegister) (w : Word) : (s.writeMaint r w).pending = s.pending :=
  ite_pending rfl rfl

@[simp] theorem State.takeUpdate_pending : s.takeUpdate.pending = s.pending := ite_pending (State.portRequest_pending _ _ _) rfl

@[simp] theorem State.takeRead_pending : s.takeRead.pending = s.pending := ite_pending (State.portRequest_pending _ _ _) rfl

@[simp] theorem State.takeInvalidate_pending : s.takeInvalidate.pending = s.pending := ite_pending rfl rfl

@[simp] theorem State.maintCommand_pending (w : Word) : (s.maintCommand w).pending = s.pending :=
  ite_pending s.takeUpdate_pending (ite_pending s.takeRead_pending (ite_pending s.takeInvalidate_pending rfl))

@[simp] theorem State.writeSlot_pending (k : SlotNo) (r : SlotRegister) (w : Word) : (s.writeSlot k r w).pending = s.pending :=
  ite_pending rfl rfl

@[simp] theorem State.goSlot_pending (k : SlotNo) : (s.goSlot k).pending = s.pending := by
  refine ite_pending rfl ?_
  simp only
  split
  · rfl
  · exact ite_pending (by simp) rfl

@[simp] theorem State.releaseSlot_pending (k : SlotNo) : (s.releaseSlot k).pending = s.pending :=
  ite_pending rfl (ite_pending rfl rfl)

@[simp] theorem State.cancelEntry_pending (k : SlotNo) (t : Tag) : (s.cancelEntry k t).pending = s.pending := by
  unfold State.cancelEntry
  split
  · rfl
  · split <;> simp

@[simp] theorem State.cancelSlot_pending (k : SlotNo) : (s.cancelSlot k).pending = s.pending := by
  unfold State.cancelSlot
  split
  · rfl
  · rfl
  · rfl
  · split <;> simp

@[simp] theorem State.slotCommand_pending (k : SlotNo) (w : Word) : (s.slotCommand k w).pending = s.pending :=
  ite_pending (s.goSlot_pending k) (ite_pending (s.releaseSlot_pending k) (ite_pending (s.cancelSlot_pending k) rfl))

@[simp] theorem State.writeSlotRegister_pending (k : SlotNo) (offset : Nat) (w : Word) :
    (s.writeSlotRegister k offset w).pending = s.pending := by
  refine ite_pending (s.slotCommand_pending k w) ?_
  split <;> simp

@[simp] theorem State.storeAccess_pending (a : BitVec 18) (size : AccessSize) (data : Word) :
    (s.storeAccess a size data).pending = s.pending := by
  unfold State.storeAccess
  split
  · rfl
  · split <;> simp

@[simp] theorem State.loadAccess_pending (a : BitVec 18) (size : AccessSize) : (s.loadAccess a size).pending = s.pending := by
  unfold State.loadAccess
  split
  · rfl
  · split <;> simp

@[simp] theorem State.readFence_pending : s.readFence.pending = s.pending := ite_pending s.completeFence_pending rfl

@[simp] theorem State.writeControl_pending (w : Word) : (s.writeControl w).pending = s.pending :=
  ite_pending rfl (ite_pending (by simp) (ite_pending (by simp) rfl))

/-- Every register of the register window (R174). -/
@[simp] theorem State.writeRegister_pending (offset : BitVec 12) (w : Word) :
    (s.writeRegister offset w).pending = s.pending :=
  ite_pending (s.writeControl_pending w) <| ite_pending (s.setLimits_pending w) <| ite_pending (s.setMapBase_pending w) <|
  ite_pending (s.clearLinkCause_pending w) <| ite_pending rfl <| ite_pending rfl <| ite_pending rfl <|
  ite_pending (s.writeMaint_pending _ w) <| ite_pending (s.writeMaint_pending _ w) <|
  ite_pending (s.writeMaint_pending _ w) <| ite_pending (s.maintCommand_pending w) <| ite_pending rfl <|
  ite_pending (s.writeSlotRegister_pending _ _ w) rfl

end Queue

/-! ## Commands -/

section Commands

variable {s : State} {f : State → State} {c : Instr}

/-- What a command answers has the queue of the state it was taken in. -/
def AnswersQueue (s : State) : Result → Prop := Answers fun t => t.pending = s.pending

theorem AnswersQueue.next {t : State} (h : t.pending = s.pending) : AnswersQueue s (.next t) := Answers.next h

theorem running_queue_kept (hf : (f s).pending = s.pending) : AnswersQueue s (running s f) := by
  unfold running
  split
  · exact .next rfl
  · exact .next hf

theorem hostAccess_queue_kept (hf : (f s).pending = s.pending) : AnswersQueue s (hostAccess c s f) := by
  unfold hostAccess
  split
  · exact .next rfl
  · exact .next hf

theorem hostWrite_queue_kept (hf : (f (s.answerHost .done)).pending = s.pending) : AnswersQueue s (hostWrite c s f) :=
  hostAccess_queue_kept hf

theorem heard_queue_kept (i : Station) (hf : ∀ u, (f u).pending = u.pending) :
    AnswersQueue s (running s (State.heard i f)) := running_queue_kept (s.heard_pending i hf)

theorem endCycle_queue_kept {meant : Cycle → Bool} {ts : List Transfer} {f : Cycle → ReadResult → State → State}
    (hf : ∀ c r u, (f c r u).pending = u.pending) : AnswersQueue s (running s (State.endCycle meant ts f)) :=
  running_queue_kept (s.endCycle_pending meant ts hf)

theorem execJoin_queue_kept (stn : Station) (rate : BitVec 2) (leaveToo enable : Bool) :
    AnswersQueue s (execJoin stn rate leaveToo enable s) := hostWrite_queue_kept (State.joinOrLeave_pending _ stn rate leaveToo)

theorem execLeave_queue_kept (enable : Bool) : AnswersQueue s (execLeave enable s) :=
  hostWrite_queue_kept (State.leaveLink_pending _)

theorem execRegisterWrite_queue_kept (offset : BitVec 12) (w : Word) : AnswersQueue s (execRegisterWrite offset w s) :=
  hostAccess_queue_kept (State.ite_pending (State.writeRegister_pending _ offset w) rfl)

theorem execHostPortReady_queue_kept : AnswersQueue s (execHostPortReady s) := running_queue_kept rfl

theorem execArbitrationLost_queue_kept : AnswersQueue s (execArbitrationLost s) := by
  refine running_queue_kept ?_
  split
  · exact State.handBack_pending _ _
  · rfl

theorem execReadbackAbort_queue_kept : AnswersQueue s (execReadbackAbort s) := by
  refine running_queue_kept ?_
  split
  · exact State.abortFrame_pending _ _
  · rfl

theorem execRequestAcknowledge_queue_kept (bits : BitVec 3) : AnswersQueue s (execRequestAcknowledge bits s) := by
  refine running_queue_kept ?_
  split
  · exact s.requestAnswered_pending _ _ _
  · rfl

theorem execReplyAcknowledge_queue_kept (bits : BitVec 3) : AnswersQueue s (execReplyAcknowledge bits s) := by
  refine running_queue_kept ?_
  split
  · exact s.replyAnswered_pending _ _ _
  · rfl

theorem execAnnounceTransmitted_queue_kept : AnswersQueue s (execAnnounceTransmitted s) := by
  refine running_queue_kept ?_
  split
  · exact s.announced_pending
  · rfl

theorem execLeaveTransmitted_queue_kept : AnswersQueue s (execLeaveTransmitted s) := by
  refine running_queue_kept ?_
  split
  · exact s.left_pending
  · rfl

theorem execLockedReadPhaseEnd_queue_kept (t : Transfer) : AnswersQueue s (execLockedReadPhaseEnd t s) := by
  refine running_queue_kept ?_
  split
  · split
    · exact s.endReadPhase_pending _ _ t
    · rfl
  · rfl

theorem execResetAsserted_queue_kept (landed : List Bool) : AnswersQueue s (execResetAsserted landed s) := by
  unfold execResetAsserted
  split <;> exact .next rfl

theorem execResetReleased_queue_kept (p : ResetPulse) : AnswersQueue s (execResetReleased p s) := by
  unfold execResetReleased
  split
  · cases p with
    | full => exact .next rfl
    | short taken => exact .next (State.ite_pending rfl (State.portNext_pending _))
  · exact .next rfl

end Commands

/-- Every command leaves the queue as it was. -/
theorem exec_queue_kept (c : Instr) (s : State) : AnswersQueue s (exec c s) := by
  cases c with
  | join stn rate leaveToo enable => exact execJoin_queue_kept stn rate leaveToo enable
  | leave enable => exact execLeave_queue_kept enable
  | softReset | inboundEnableWrite | interruptMaskWrite | signalPop | eventPop | maintCommandUndefined
  | slotCommandUndefined => exact hostWrite_queue_kept rfl
  | limitsWrite w => exact hostWrite_queue_kept (State.setLimits_pending _ w)
  | mapBaseWrite w => exact hostWrite_queue_kept (State.setMapBase_pending _ w)
  | linkCauseClear w => exact hostWrite_queue_kept (State.clearLinkCause_pending _ w)
  | maintRegisterWrite r w => exact hostWrite_queue_kept (State.writeMaint_pending _ r w)
  | update => exact hostWrite_queue_kept (State.takeUpdate_pending _)
  | read => exact hostWrite_queue_kept (State.takeRead_pending _)
  | invalidateAll => exact hostWrite_queue_kept (State.takeInvalidate_pending _)
  | slotParameterWrite k r w => exact hostWrite_queue_kept (State.writeSlot_pending _ k r w)
  | go k => exact hostWrite_queue_kept (State.goSlot_pending _ k)
  | release k => exact hostWrite_queue_kept (State.releaseSlot_pending _ k)
  | cancel k => exact hostWrite_queue_kept (State.cancelSlot_pending _ k)
  | registerWrite offset w => exact execRegisterWrite_queue_kept offset w
  | registerAccessInvalid => exact hostAccess_queue_kept rfl
  | fenceRead => exact hostAccess_queue_kept s.readFence_pending
  | apertureStore a size data => exact hostAccess_queue_kept (s.storeAccess_pending a size data)
  | apertureLoad a size => exact hostAccess_queue_kept (s.loadAccess_pending a size)
  | fenceReadComplete => exact running_queue_kept (State.ite_pending s.completeFence_pending rfl)
  | heldStorePlaced => exact running_queue_kept s.endHeldStore_pending
  | postedEntryPresented p => exact running_queue_kept (s.presentPlace_pending p)
  | loadPresented => exact running_queue_kept s.presentLoad_pending
  | slotPresented k => exact running_queue_kept (s.presentSlot_pending k)
  | drainComplete => exact running_queue_kept s.checkDrain_pending
  | transmitOpportunity => exact running_queue_kept s.transmit_pending
  | arbitrationLost => exact execArbitrationLost_queue_kept
  | readbackAbort => exact execReadbackAbort_queue_kept
  | requestAcknowledge bits => exact execRequestAcknowledge_queue_kept bits
  | replyAcknowledge bits => exact execReplyAcknowledge_queue_kept bits
  | announceTransmitted => exact execAnnounceTransmitted_queue_kept
  | leaveTransmitted => exact execLeaveTransmitted_queue_kept
  | backoffElapsed t => exact running_queue_kept (s.endBackoff_pending t)
  | loopbackBackoffElapsed t => exact running_queue_kept (s.endLoopbackBackoff_pending t)
  | replyBackoffElapsed i t => exact running_queue_kept (s.endReplyBackoff_pending i t)
  | responseTimeout t => exact running_queue_kept (s.timeOut_pending t)
  | roundGapElapsed => exact running_queue_kept s.endRound_pending
  | joinListenComplete => exact running_queue_kept s.endListen_pending
  | mediumSyncRun => exact running_queue_kept s.endSync_pending
  | strayDominantBit => exact running_queue_kept s.strayBit_pending
  | badFrame n => exact running_queue_kept (s.dropFrame_pending n)
  | malformedFrame frame => exact heard_queue_kept _ fun u => u.hear_pending _
  | frameHeard i => exact heard_queue_kept i fun u => u.hear_pending i
  | ownSourceFrameHeard => exact running_queue_kept (s.heard_pending _ fun _ => rfl)
  | readReq i t b p o n =>
    exact heard_queue_kept i fun u => State.ite_pending (u.decideOffer_pending i t b _) (u.hear_pending i)
  | writeReq i t b p o ws =>
    exact heard_queue_kept i fun u => State.ite_pending (u.decideOffer_pending i t b _) (u.hear_pending i)
  | atomicReq i t b p o op => exact heard_queue_kept i fun u => u.decideOffer_pending i t b _
  | signal i t b v => exact heard_queue_kept i fun u => u.decideOffer_pending i t b _
  | probe i => exact heard_queue_kept i fun u => State.ite_pending (u.hear_pending i) (u.hear_pending i)
  | response i t b st data =>
    exact heard_queue_kept i fun u => State.ite_pending (u.answer_pending i t b st data) (u.hear_pending i)
  | announce i => exact heard_queue_kept i fun u => (State.checkDrain_pending _).trans (u.hear_pending i)
  | leaveFrame i => exact heard_queue_kept i fun u => (State.checkDrain_pending _).trans (u.hearLeave_pending i)
  | executionStart => exact running_queue_kept s.startExecution_pending
  | mapFillEnd => exact endCycle_queue_kept fun _ r u => u.fillEnded_pending r
  | dataCycleEnd => exact endCycle_queue_kept fun _ r u => u.dataEnded_pending r
  | lockedReadPhaseEnd t => exact execLockedReadPhaseEnd_queue_kept t
  | lockedWritePhaseEnd => exact endCycle_queue_kept fun _ r u => u.dataEnded_pending r
  | mapWriteEnd => exact endCycle_queue_kept fun c r u => u.updateEnded_pending c r
  | maintMapReadEnd => exact endCycle_queue_kept fun c r u => u.maintReadEnded_pending c r
  | discardedCycleEnd => exact endCycle_queue_kept fun _ _ _ => rfl
  | resetAsserted landed => exact execResetAsserted_queue_kept landed
  | resetReleased p => exact execResetReleased_queue_kept p
  | hostPortReady => exact execHostPortReady_queue_kept
  | startMarker => exact running_queue_kept s.startSeen_pending
  | acknowledgeSlotCompleted => exact running_queue_kept s.endSlotAfterReset_pending

/-- Settles O2: every command answers, and no effect of one reads or changes the queue. -/
theorem everyCommandAnswersAndKeepsTheQueue : Obligations.EveryCommandAnswersAndKeepsTheQueue := by
  intro c s
  obtain ⟨t, ht⟩ := exec_answers c s
  exact ⟨t, ht, exec_queue_kept c s t ht⟩

/-- Settles O1: a step with a command in the queue is that command, run with the queue's rest. -/
theorem stepRunsTheFrontCommand : Obligations.StepRunsTheFrontCommand := fun _ _ _ => rfl

/-! ## The host bus and RESET low (R170, R178) -/

/-- While the Host Port takes no access, a host access waits on the host bus and has no other effect (R170, R178). -/
theorem exec_hostAccess_waits {c : Instr} {s : State} (hc : isHostAccess c = true) (h : s.hostBlocked = true) :
    exec c s = .next (s.waitOnBus c) := by
  cases c with
  | join | leave | softReset | inboundEnableWrite | limitsWrite | mapBaseWrite | linkCauseClear | interruptMaskWrite
  | fenceRead | signalPop | eventPop | maintRegisterWrite | update | read | invalidateAll | maintCommandUndefined
  | slotParameterWrite | go | release | cancel | slotCommandUndefined | registerWrite | registerAccessInvalid
  | apertureStore | apertureLoad => exact if_pos h
  | _ => cases hc

/-- While RESET is low no happening changes anything, but for the return of the pin (R178). -/
theorem exec_happening_low {c : Instr} {s : State} (hc : isHostAccess c = false) (hp : ∀ p, c ≠ .resetReleased p)
    (h : s.pins.resetLow = true) : exec c s = .next s := by
  cases c with
  | join | leave | softReset | inboundEnableWrite | limitsWrite | mapBaseWrite | linkCauseClear | interruptMaskWrite
  | fenceRead | signalPop | eventPop | maintRegisterWrite | update | read | invalidateAll | maintCommandUndefined
  | slotParameterWrite | go | release | cancel | slotCommandUndefined | registerWrite | registerAccessInvalid
  | apertureStore | apertureLoad => cases hc
  | resetReleased p => exact absurd rfl (hp p)
  | _ => exact if_pos h

/-- Settles O3: a host access that the Host Port does not take joins those that wait, and a happening under a low RESET is ruled
out. -/
theorem blockedAccessesWaitAndResetLowFreezes : Obligations.BlockedAccessesWaitAndResetLowFreezes :=
  ⟨fun _ _ => exec_hostAccess_waits, fun _ _ => exec_happening_low⟩

end Sys2Proof.Machine

/-! SUPPORT. The offsets of the register window that hold no register, or one that is read only or write only (R169, R174), the
identification register (R173), and how a host read ends (R169, R170, R178). -/

namespace Sys2Proof.Machine

section Offsets

variable {offset : BitVec 12} {s : State}

/-! ## Writes that change nothing (R169, R174) -/

/-- The offsets outside the Aperture Map and the slots at which a word is written to a register (R174). -/
def writableOffsets : List Nat := [0x004, 0x00C, 0x010, 0x014, 0x018, 0x034, 0x04C, 0x060, 0x064, 0x068, 0x06C]

theorem State.writeRegister_ignored (hw : offset.toNat ∉ writableOffsets) (hr : offset.toNat < 0x100 ∨ 0x400 ≤ offset.toNat)
    (w : Word) (s : State) : s.writeRegister offset w = s := by
  simp only [writableOffsets, List.mem_cons, List.not_mem_nil, or_false, not_or] at hw
  rw [State.writeRegister]
  iterate 13 refine (if_neg (by omega)).trans ?_
  rfl

theorem exec_registerWrite_ignored (h : s.hostBlocked = false) (ha : offset.toNat % 4 = 0)
    (hw : offset.toNat ∉ writableOffsets) (hr : offset.toNat < 0x100 ∨ 0x400 ≤ offset.toNat) (v : Word) :
    exec (.registerWrite offset v) s = .next (s.answerHost .done) := by
  rw [exec_registerWrite_free h ha, State.writeRegister_ignored hw hr]

/-- A word write at an offset that is not a multiple of 4 (R169). -/
theorem exec_registerWrite_misaligned (h : s.hostBlocked = false) (ha : offset.toNat % 4 ≠ 0) (v : Word) :
    exec (.registerWrite offset v) s = .next (s.answerHost .busError) := by
  change execRegisterWrite offset v s = _
  rw [execRegisterWrite, hostAccess_free _ _ h, if_neg ha]

/-- An offset is given by its number. -/
theorem offset_eq_of_toNat {n : Nat} (h : offset.toNat = n) : offset = BitVec.ofNat 12 n := by
  rw [← h, BitVec.ofNat_toNat, BitVec.setWidth_eq]

/-- A word write at a slot offset that is read only or unassigned (R174). -/
theorem exec_slotOffset_ignored (h : s.hostBlocked = false) {k : SlotNo} {j : Nat}
    (hj : offset.toNat = 0x200 + 0x80 * k.val + j) (hmem : j ∈ slotReadOnly) (v : Word) :
    exec (.registerWrite offset v) s = .next (s.answerHost .done) := by
  obtain ⟨ho, ha, hne, hr⟩ := slotRegisterAt_readOnly j hmem
  rw [offset_eq_of_toNat hj, exec_slotOffset h k ho ha, State.writeSlotRegister_readOnly hne hr]

/-! ## Offsets that read 0 (R169, R174) -/

/-- Above the Roster and above the slots no register stands. -/
theorem State.readRegister_beyond (h : 0x400 ≤ offset.toNat ∨ (0x0C0 ≤ offset.toNat ∧ offset.toNat < 0x100)) (s : State) :
    s.readRegister offset = 0#32 := by
  rw [State.readRegister]
  iterate 23 refine (if_neg (by omega)).trans ?_
  rfl

/-- The offsets below the Roster that hold no register, or one that is write only (R174). -/
def unreadableOffsets : List Nat :=
  [0x034, 0x038, 0x03C, 0x04C, 0x050, 0x054, 0x058, 0x05C, 0x06C, 0x074, 0x078, 0x07C]

theorem State.readRegister_unreadable (h : offset.toNat ∈ unreadableOffsets) (s : State) :
    s.readRegister offset = 0#32 := by
  have hread : ∀ a ∈ unreadableOffsets, s.readRegister (BitVec.ofNat 12 a) = 0#32 := by
    simp only [unreadableOffsets, List.forall_mem_cons]
    exact ⟨rfl, rfl, rfl, rfl, rfl, rfl, rfl, rfl, rfl, rfl, rfl, rfl, nofun⟩
  rw [offset_eq_of_toNat (offset := offset) rfl]
  exact hread _ h

/-- The slot offsets of the command register, which is write only, and of no register (R174). -/
def slotUnreadable : List Nat := [0x1C, 0x28, 0x2C, 0x30, 0x34, 0x38, 0x3C]

theorem Slot.read_unreadable (sl : Slot) : ∀ j ∈ slotUnreadable, j < 0x80 ∧ sl.read j = 0#32 := by
  simp only [slotUnreadable, List.forall_mem_cons]
  exact ⟨⟨by decide, rfl⟩, ⟨by decide, rfl⟩, ⟨by decide, rfl⟩, ⟨by decide, rfl⟩, ⟨by decide, rfl⟩, ⟨by decide, rfl⟩,
    ⟨by decide, rfl⟩, nofun⟩

theorem State.readRegister_slotUnreadable {k : SlotNo} {j : Nat} (hj : offset.toNat = 0x200 + 0x80 * k.val + j)
    (hmem : j ∈ slotUnreadable) (s : State) : s.readRegister offset = 0#32 := by
  obtain ⟨ho, hread⟩ := s.slots[k].read_unreadable j hmem
  rw [offset_eq_of_toNat hj, State.readRegister_slot k ho, hread]

/-! ## How a host read ends (R169, R170, R178) -/

theorem State.hostRead_waits (h : s.hostBlocked = true) (offset : BitVec 12) : s.hostRead offset = .waits := if_pos h

theorem State.hostRead_misaligned (h : s.hostBlocked = false) (ha : offset.toNat % 4 ≠ 0) :
    s.hostRead offset = .busError := by
  rw [State.hostRead, h, if_neg (by decide), if_neg ha]

theorem State.hostRead_word (h : s.hostBlocked = false) (ha : offset.toNat % 4 = 0) :
    s.hostRead offset = .word (s.readRegister offset) := by
  rw [State.hostRead, h, if_neg (by decide), if_pos ha]

/-! ## The identification register (R173) -/

theorem State.readRegister_identification (s : State) : s.readRegister 0x000#12 = 0x3A501601#32 := rfl

end Offsets

/-- Settles O9: accesses that are invalid, writes by what stands at the offset, offsets that read 0, and the three ends of a
read. -/
theorem invalidRegisterAccessEndsWithABusError : Obligations.InvalidRegisterAccessEndsWithABusError := by
  refine ⟨fun w size offset v s h => ⟨hostAccess_free _ _ h, fun ha => exec_registerWrite_misaligned h ha v,
      fun ha hw hr => exec_registerWrite_ignored h ha hw hr v, fun k j hj hmem => exec_slotOffset_ignored h hj hmem v,
      ?reads⟩,
    fun offset s => ⟨fun h => State.hostRead_waits h offset, fun h ha => State.hostRead_misaligned h ha,
      fun h ha _ => State.hostRead_word h ha⟩⟩
  case reads =>
    rintro (habove | hgap | hmem | ⟨k, j, hj, hmem⟩)
    · exact State.readRegister_beyond (.inl habove) s
    · exact State.readRegister_beyond (.inr hgap) s
    · exact State.readRegister_unreadable hmem s
    · exact State.readRegister_slotUnreadable hj hmem s

/-- Settles O7: the word read, its fields, and the write that is ignored. -/
theorem identificationReadsTheSameAlways : Obligations.IdentificationReadsTheSameAlways := by
  intro s v
  rw [State.readRegister_identification]
  exact ⟨rfl, by decide, by decide, by decide,
    fun h => exec_registerWrite_ignored h (by decide) (by decide) (.inl (by decide)) v⟩

end Sys2Proof.Machine

/-! SUPPORT. The resets: RESET returning high (R178), what the registers read in the state after reset, the soft reset (R172) with
the code it finds begun (R99), and the invariants of the state after reset. -/

namespace Sys2Proof.Machine

/-! ## The power-on values block by block (R20, R77, R114, R120, R136, R166) -/

theorem Outbound.initial_at (g : Tag) : Outbound.initial.table[g] = none ∧ Outbound.initial.issueBits[g] = false := by
  simp [Outbound.initial]

theorem emptyFilter_at (i : Station) (g : Tag) : emptyFilter[i][g] = { issue := false, state := .vacant } := by
  simp [emptyFilter]

theorem Aperture.initial_at (a : Fin 64) : Aperture.initial.map[a] = { valid := false, target := 0, page := 0 } := by
  simp [Aperture.initial]

theorem initialSlots_at (k : SlotNo) : (Vector.replicate 4 Slot.initial)[k] = Slot.initial := by simp

theorem Slot.initial_bufferWord (i : Fin 16) : Slot.initial.buffer[i] = 0#32 := by simp [Slot.initial]

theorem mapWord0_zero : mapWord0 MapEntry.zero = 0#32 := by decide

theorem mapWord1_zero : mapWord1 MapEntry.zero = 0#32 := by decide

/-- With slots, signals and records in their initial values and the LINK cause clear, no cause is high (R166). -/
theorem State.causes_of_initial {s : State} (hs : s.slots = Vector.replicate 4 Slot.initial) (hq : s.signals = [])
    (he : s.events.records = []) (hl : s.interrupt.linkCause = false) : s.causes = 0#7 := by
  rw [State.causes, hs, hq, he, hl]
  rfl

/-! ## RESET returning high (R178) -/

section ResetReleased

variable {s : State}

theorem exec_resetReleased_full (h : s.pins.resetLow = true) : exec (.resetReleased .full) s = .next s.powerOn := if_pos h

theorem exec_resetReleased_short (h : s.pins.resetLow = true) (taken : Bool) :
    exec (.resetReleased (.short taken)) s = .next (if taken then s.powerOn else s.notReset) := if_pos h

theorem State.powerOn_causes : s.powerOn.causes = 0#7 := State.causes_of_initial rfl rfl rfl rfl

theorem State.powerOn_int : s.powerOn.int = false := by
  rw [State.int, State.powerOn_causes, BitVec.zero_and, bne_self_eq_false, Bool.and_false]

end ResetReleased

/-- Settles O5: the power-on values block by block, a short level by what it did, and the registers of the state after reset. -/
theorem resetReleasedGivesPowerOnValues : Obligations.ResetReleasedGivesPowerOnValues := by
  refine ⟨fun s h => ⟨s.powerOn, exec_resetReleased_full h, rfl, rfl, rfl, rfl, rfl, rfl, freshRoster_own 0,
      fun i hi => freshRoster_other hi, rfl, Outbound.initial_at, rfl, rfl, rfl, rfl, emptyFilter_at, rfl, rfl, rfl, rfl, rfl,
      mapWord0_zero, mapWord1_zero, rfl, Aperture.initial_at, rfl, rfl, fun k => ?slot, rfl, rfl, rfl,
      State.powerOn_causes, State.powerOn_int, rfl, rfl, rfl, rfl⟩,
    fun s h => ⟨?taken, exec_resetReleased_short h false⟩, ?registers⟩
  case slot =>
    have hk : s.powerOn.slots[k] = Slot.initial := initialSlots_at k
    rw [hk]
    exact ⟨rfl, rfl, rfl, rfl, rfl, rfl, rfl, rfl, rfl, rfl, rfl, Slot.initial_bufferWord⟩
  case taken => rw [exec_resetReleased_short h true, exec_resetReleased_full h, if_pos rfl]
  case registers => decide

/-! ## The Link Unit at soft reset (R99) -/

section AtSoftReset

variable {u : LinkUnit} {begun : Bool}

/-- The code that a soft reset lets run to its third bit: the one driven, if its slot has begun (R99). -/
def LinkUnit.codeBegun (u : LinkUnit) (begun : Bool) : Option AckCode :=
  if begun || u.phase.slotBegun || u.slotLeft.isSome then u.driving else none

theorem LinkUnit.atSoftReset_eq (u : LinkUnit) (begun : Bool) :
    u.atSoftReset begun =
      { LinkUnit.initial with
        attached := (u.codeBegun begun).isSome
        driving := u.codeBegun begun
        slotLeft := (u.codeBegun begun).map fun _ => u.slotLeft.getD u.phase.slotRest } := rfl

theorem LinkUnit.codeBegun_undriven (h : u.driving = none) : u.codeBegun begun = none := by
  rw [LinkUnit.codeBegun, h, ite_self]

theorem LinkUnit.codeBegun_driven (h : begun = true ∨ u.phase.slotBegun = true ∨ u.slotLeft.isSome = true) :
    u.codeBegun begun = u.driving := if_pos (by simpa only [Bool.or_eq_true, or_assoc] using h)

/-- A code that is decided and not begun is not driven (R99). -/
theorem LinkUnit.codeBegun_decided (hs : u.slotLeft = none) (hp : ∀ n, u.phase = .ending n → 4 ≤ n) :
    u.codeBegun false = none := by
  have hbegun : u.phase.slotBegun = false := by
    unfold MediumPhase.slotBegun
    split
    · exact decide_eq_false (not_lt.mpr (hp _ ‹_›))
    · rfl
  rw [LinkUnit.codeBegun, hbegun, hs]
  rfl

/-- The slot has begun once fewer than the four bits of slot and delimiter are still to come (R99). -/
theorem MediumPhase.slotBegun_ending {n : Nat} (h : n < 4) : (MediumPhase.ending n).slotBegun = true := decide_eq_true h

theorem LinkUnit.atSoftReset_attached : (u.atSoftReset begun).attached = true ↔ (u.atSoftReset begun).driving ≠ none :=
  Option.isSome_iff_ne_none

theorem LinkUnit.atSoftReset_slotLeft : (u.atSoftReset begun).slotLeft ≠ none ↔ (u.atSoftReset begun).driving ≠ none :=
  not_congr Option.map_eq_none_iff

/-- A code that runs on keeps the bits it still has to be driven for. -/
theorem LinkUnit.atSoftReset_runsOn {code : AckCode} (h : u.codeBegun begun = some code) :
    (u.atSoftReset begun).driving = some code ∧
      (u.atSoftReset begun).slotLeft = some (u.slotLeft.getD u.phase.slotRest) := by
  rw [LinkUnit.atSoftReset_eq, h]
  exact ⟨rfl, rfl⟩

/-- The code of the present slot, with the bits of that slot to come. -/
theorem LinkUnit.atSoftReset_present {code : AckCode} {n : Nat} (hd : u.driving = some code) (hs : u.slotLeft = none)
    (hp : u.phase = .ending n) (h : begun = true ∨ n < 4) :
    (u.atSoftReset begun).driving = some code ∧ (u.atSoftReset begun).slotLeft = some (n - 1) := by
  have hbegun : u.codeBegun begun = some code :=
    (LinkUnit.codeBegun_driven (h.imp_right fun hn => .inl (hp ▸ MediumPhase.slotBegun_ending hn))).trans hd
  have hrun := LinkUnit.atSoftReset_runsOn hbegun
  rwa [hs, hp] at hrun

/-- The code that an earlier soft reset found begun. -/
theorem LinkUnit.atSoftReset_earlier {code : AckCode} {n : Nat} (hd : u.driving = some code) (hs : u.slotLeft = some n) :
    (u.atSoftReset begun).driving = some code ∧ (u.atSoftReset begun).slotLeft = some n := by
  have hbegun : u.codeBegun begun = some code :=
    (LinkUnit.codeBegun_driven (.inr (.inr (by rw [hs]; rfl)))).trans hd
  have hrun := LinkUnit.atSoftReset_runsOn hbegun
  rwa [hs] at hrun

end AtSoftReset

/-! ## SOFT-RESET (R171, R172) -/

theorem exec_softReset {s : State} (h : s.hostBlocked = false) (begun : Bool) :
    exec (.softReset begun) s = .next ((s.answerHost .done).softReset begun) := hostWrite_free _ _ h

theorem State.softReset_causes (s : State) (begun : Bool) : (s.softReset begun).causes = 0#7 :=
  State.causes_of_initial rfl rfl rfl rfl

theorem State.writeControl_softReset {w : Word} (h : w.getLsbD 2 = true) (s : State) :
    s.writeControl w = s.softReset true := if_pos h

/-- Settles O11: the soft-reset values block by block, the code of the Link Unit by how far its slot has come, and the CONTROL
word. -/
theorem softResetKeepsOnlyWhatItsRuleKeeps : Obligations.SoftResetKeepsOnlyWhatItsRuleKeeps := by
  refine ⟨fun begun s h => ⟨(s.answerHost .done).softReset begun, exec_softReset h begun, rfl, rfl, rfl, rfl, rfl, rfl,
      freshRoster_own _, fun i hi => freshRoster_other hi, rfl, rfl, rfl, rfl, LinkUnit.atSoftReset_attached,
      LinkUnit.atSoftReset_slotLeft, LinkUnit.codeBegun_undriven, ?decided, ?driven, Outbound.initial_at, rfl, rfl, rfl, rfl,
      emptyFilter_at, rfl, rfl, rfl, rfl, rfl, mapWord0_zero, mapWord1_zero, rfl, rfl, initialSlots_at, rfl, rfl, rfl,
      State.softReset_causes _ begun, rfl, rfl, rfl, rfl⟩, fun v s h hv => ?control⟩
  case decided =>
    rintro rfl hs hp
    exact LinkUnit.codeBegun_decided hs hp
  case driven =>
    exact fun code hd => ⟨fun n hs hp hb => LinkUnit.atSoftReset_present hd hs hp hb,
      fun n hs => LinkUnit.atSoftReset_earlier hd hs⟩
  case control =>
    rw [exec_registerWrite_free h (by decide), State.writeRegister_control, State.writeControl_softReset hv, exec_softReset h]

/-! ## The state after reset meets the invariants -/

theorem State.reset_bounded : State.reset.bounded := State.bounded.of_empty rfl rfl rfl rfl rfl rfl rfl rfl

theorem State.reset_rosterSound : State.reset.rosterSound :=
  State.rosterSound_iff.mpr ⟨MembershipUnit.sound_of_fresh StartConfig.initial_sound rfl, fun _ => ⟨rfl, rfl⟩⟩

theorem State.reset_inboundSound : State.reset.inboundSound :=
  State.inboundSound_of_empty rfl rfl ⟨rfl, nofun, nofun⟩ rfl nofun

theorem State.reset_queueSound : State.reset.queueSound := State.queueSound.of_empty rfl emptyTable_at rfl nofun

/-- Settles O60: each invariant by the empty collections and the fresh Roster it allows. -/
theorem resetMeetsTheInvariants : Obligations.ResetMeetsTheInvariants :=
  ⟨State.reset_bounded, State.reset_rosterSound, State.reset_inboundSound, State.reset_queueSound⟩

end Sys2Proof.Machine
